-- ==== Sys2Proof/Word.lean ====
section
/-! DEFINITION. The words the block's ports and registers carry (00_scope.md R10, 30_encoding.md R90), and the
two 1-bit indexes of the record file (10_state.md R38). -/

namespace Sys2Proof

/-- The 32-bit command word `CW` and the 32-bit response word (R90, R91). -/
abbrev Word := BitVec 32

/-- The 64-bit operand bus `OPND` (R90, R94). -/
abbrev Opnd := BitVec 64

/-- One granule usage record: 12 bits, 0 to 4095 (R38). -/
abbrev Record := BitVec 12

/-- The granule index `GR` of a record: "MPEG Layer III always uses exactly two granules per frame" (R9, R18). -/
inductive Granule where
  /-- `GR = 0` -/
  | g0
  /-- `GR = 1` -/
  | g1
  deriving DecidableEq, Repr

/-- The channel index `CH` of a record (R38); `c1` is used only when two channels are configured. -/
inductive Channel where
  /-- `CH = 0` -/
  | c0
  /-- `CH = 1` -/
  | c1
  deriving DecidableEq, Repr

/-- One slot: a (granule, channel) pair (R19). -/
abbrev Slot := Granule × Channel

end Sys2Proof
end

