-- ==== Sys2Proof/Syntax.lean ====
section
/-! DEFINITION. The ten commands of the block with their operands (30_encoding.md R92 to R98, R101): one constructor
per row of spec/opcode_table.json. -/

namespace Sys2Proof

/-- A legal command word with its operands, fields already pulled out. -/
inductive Instr where
  /-- NOP, opcode 0x0: no operation (R190). -/
  | nop
  /-- FBEGIN, opcode 0x1: `LEN = CW[15:0]`, the frame length in bits (R93, R130). -/
  | fbegin (len : BitVec 16)
  /-- MAXBITS, opcode 0x2: `pe = OPND[63:0]`, the bits of the binary64 perceptual entropy (R94, R140). -/
  | maxbits (pe : Opnd)
  /-- ADJUST, opcode 0x3: `USED = CW[11:0]`, the bits spent on the slot (R95, R160). -/
  | adjust (used : BitVec 12)
  /-- FEND, opcode 0x4: no operand (R96, R170). -/
  | fend
  /-- WRCFG, opcode 0x5: `MEAN = CW[15:0]`, `STEREO = CW[16]` (R97, R192). -/
  | wrcfg (mean : BitVec 16) (stereo : Bool)
  /-- WRREC, opcode 0x6: `GR = CW[13]`, `CH = CW[12]`, `VAL = CW[11:0]` (R98, R194). -/
  | wrrec (gr : Granule) (ch : Channel) (val : Record)
  /-- RDREC, opcode 0x7: `GR = CW[13]`, `CH = CW[12]` (R98, R196). -/
  | rdrec (gr : Granule) (ch : Channel)
  /-- RDREG, opcode 0x8: `SEL = CW[3:0]`, 0 to 8 (R100, R198). -/
  | rdreg (sel : BitVec 4)
  /-- CLRSIDE, opcode 0x9: no operand (R200). -/
  | clrside
  deriving DecidableEq, Repr

end Sys2Proof
end

