-- ==== Sys2Proof/WellFormed.lean ====
section
/-! DEFINITION. Which terms of `Instr` are commands: the check that does not look at the state (`wellFormed`), and the
one that looks at CFG.STEREO (`inRange`), 30_encoding.md R102 and R104. -/

namespace Sys2Proof

/-- The command can be written as a legal word under some configuration: an RDREG selector is 0 to 8 (R100, R102);
every other operand is legal at every value of its field. -/
def Instr.wellFormed : Instr → Bool
  | .nop => true
  | .fbegin _ => true
  | .maxbits _ => true
  | .adjust _ => true
  | .fend => true
  | .wrcfg _ _ => true
  | .wrrec _ _ _ => true
  | .rdrec _ _ => true
  | .rdreg sel => decide (sel.toNat ≤ 8)
  | .clrside => true

/-- The record index of WRREC and RDREC lies in the configured table: channel 1 needs two channels (R102, R104). -/
def Instr.inRange (stereo : Bool) : Instr → Bool
  | .nop => true
  | .fbegin _ => true
  | .maxbits _ => true
  | .adjust _ => true
  | .fend => true
  | .wrcfg _ _ => true
  | .wrrec _ ch _ => decide (ch = .c0) || stereo
  | .rdrec _ ch => decide (ch = .c0) || stereo
  | .rdreg _ => true
  | .clrside => true

end Sys2Proof
end

