-- ==== Sys2Proof/Decode.lean ====
section
/-! DEFINITION. From a command word and its operand to a command or a rejection by name, and back
(30_encoding.md R91, R92, R101, R102). Total: every pair of words has an answer. -/

namespace Sys2Proof

/-- The ten assigned opcodes (R101). -/
inductive Opcode where
  | nop | fbegin | maxbits | adjust | fend | wrcfg | wrrec | rdrec | rdreg | clrside
  deriving DecidableEq, Repr

/-- Why a word is no command (R104); the block then executes `State.illegalCommand`. -/
inductive Reject where
  /-- `CW[31:28]` is 0xA to 0xF. -/
  | reservedOpcode (op : BitVec 4)
  /-- A reserved bit of the named command is not 0. -/
  | reservedBits (mnemonic : String)
  /-- An RDREG selector 9 to 15. -/
  | reservedSelector (sel : BitVec 4)
  deriving DecidableEq, Repr

/-- The value of `CW[31:28]` that selects a command (R101). -/
def Opcode.bits : Opcode → BitVec 4
  | .nop => 0x0#4
  | .fbegin => 0x1#4
  | .maxbits => 0x2#4
  | .adjust => 0x3#4
  | .fend => 0x4#4
  | .wrcfg => 0x5#4
  | .wrrec => 0x6#4
  | .rdrec => 0x7#4
  | .rdreg => 0x8#4
  | .clrside => 0x9#4

/-- The command that `CW[31:28]` selects; 0xA to 0xF are reserved (R101, R105). -/
def Opcode.ofBits? (b : BitVec 4) : Option Opcode :=
  match b.toNat with
  | 0 => some .nop
  | 1 => some .fbegin
  | 2 => some .maxbits
  | 3 => some .adjust
  | 4 => some .fend
  | 5 => some .wrcfg
  | 6 => some .wrrec
  | 7 => some .rdrec
  | 8 => some .rdreg
  | 9 => some .clrside
  | _ => none

/-- `v[lo+len-1:lo]`: the field of a command word (R12). -/
def field (cw : Word) (lo len : Nat) : BitVec len := cw.extractLsb' lo len

/-- `CW[13]` as a granule index (R98). -/
def Granule.ofBit (b : Bool) : Granule := if b then .g1 else .g0

/-- `CW[12]` as a channel index (R98). -/
def Channel.ofBit (b : Bool) : Channel := if b then .c1 else .c0

/-- The granule index as `CW[13]` (R98). -/
def Granule.bit : Granule → Bool
  | .g0 => false
  | .g1 => true

/-- The channel index as `CW[12]` (R98). -/
def Channel.bit : Channel → Bool
  | .c0 => false
  | .c1 => true

/-- The command `i`, if the reserved bits are all 0 (`ok`); else the rejection of the named command (R92, R104). -/
def requireZero (mnemonic : String) (ok : Bool) (i : Instr) : Except Reject Instr :=
  if ok then .ok i else .error (.reservedBits mnemonic)

/-- The decoder (R92, R102). It reads OPND only into the operand of MAXBITS, never to decide legality, and it does not
look at the state: the one check that needs CFG.STEREO is `Instr.inRange`. -/
def decode (cw : Word) (opnd : Opnd) : Except Reject Instr :=
  match Opcode.ofBits? (field cw 28 4) with
  | none => .error (.reservedOpcode (field cw 28 4))
  | some .nop => requireZero "NOP" (field cw 0 28 == 0) .nop
  | some .fbegin => requireZero "FBEGIN" (field cw 16 12 == 0) (.fbegin (field cw 0 16))
  | some .maxbits => requireZero "MAXBITS" (field cw 0 28 == 0) (.maxbits opnd)
  | some .adjust => requireZero "ADJUST" (field cw 12 16 == 0) (.adjust (field cw 0 12))
  | some .fend => requireZero "FEND" (field cw 0 28 == 0) .fend
  | some .wrcfg => requireZero "WRCFG" (field cw 17 11 == 0) (.wrcfg (field cw 0 16) (cw.getLsbD 16))
  | some .wrrec =>
    requireZero "WRREC" (field cw 14 14 == 0)
      (.wrrec (Granule.ofBit (cw.getLsbD 13)) (Channel.ofBit (cw.getLsbD 12)) (field cw 0 12))
  | some .rdrec =>
    requireZero "RDREC" (field cw 14 14 == 0 && field cw 0 12 == 0)
      (.rdrec (Granule.ofBit (cw.getLsbD 13)) (Channel.ofBit (cw.getLsbD 12)))
  | some .rdreg =>
    if field cw 4 24 == 0 then
      if (field cw 0 4).toNat ≤ 8 then .ok (.rdreg (field cw 0 4)) else .error (.reservedSelector (field cw 0 4))
    else .error (.reservedBits "RDREG")
  | some .clrside => requireZero "CLRSIDE" (field cw 0 28 == 0) .clrside

/-- Rule R102's own `legal`, transcribed case by case over the opcode as a number. `decode` and `Instr.inRange` decide
the same thing; that they do is a statement for the provers. -/
def legal (cw : Word) (stereo : Bool) : Bool :=
  match (field cw 28 4).toNat with
  | 0 | 2 | 4 | 9 => field cw 0 28 == 0
  | 1 => field cw 16 12 == 0
  | 3 => field cw 12 16 == 0
  | 5 => field cw 17 11 == 0
  | 6 => field cw 14 14 == 0 && (!cw.getLsbD 12 || stereo)
  | 7 => field cw 14 14 == 0 && field cw 0 12 == 0 && (!cw.getLsbD 12 || stereo)
  | 8 => field cw 4 24 == 0 && decide ((field cw 0 4).toNat ≤ 8)
  | _ => false

/-- The opcode of a command (R101). -/
def Instr.opcode : Instr → Opcode
  | .nop => .nop
  | .fbegin _ => .fbegin
  | .maxbits _ => .maxbits
  | .adjust _ => .adjust
  | .fend => .fend
  | .wrcfg _ _ => .wrcfg
  | .wrrec _ _ _ => .wrrec
  | .rdrec _ _ => .rdrec
  | .rdreg _ => .rdreg
  | .clrside => .clrside

/-- `CW[27:0]` of a command: its operand fields in their places, every reserved bit 0 (R92). -/
def Instr.payload : Instr → BitVec 28
  | .nop => 0#28
  | .fbegin len => 0#12 ++ len
  | .maxbits _ => 0#28
  | .adjust used => 0#16 ++ used
  | .fend => 0#28
  | .wrcfg mean stereo => 0#11 ++ (BitVec.ofBool stereo ++ mean)
  | .wrrec gr ch val => 0#14 ++ (BitVec.ofBool gr.bit ++ (BitVec.ofBool ch.bit ++ val))
  | .rdrec gr ch => 0#14 ++ (BitVec.ofBool gr.bit ++ (BitVec.ofBool ch.bit ++ 0#12))
  | .rdreg sel => 0#24 ++ sel
  | .clrside => 0#28

/-- The operand an assembler drives on OPND: the PE of MAXBITS, 0 for every other command (R94, R107). -/
def Instr.operand : Instr → Opnd
  | .nop => 0
  | .fbegin _ => 0
  | .maxbits pe => pe
  | .adjust _ => 0
  | .fend => 0
  | .wrcfg _ _ => 0
  | .wrrec _ _ _ => 0
  | .rdrec _ _ => 0
  | .rdreg _ => 0
  | .clrside => 0

/-- The encoder: the command word and the operand of a command (R92, R107). -/
def encode (i : Instr) : Word × Opnd := (i.opcode.bits ++ i.payload, i.operand)

/-- The two port words of an instruction whose bits are numbered as spec/opcode_table.json numbers them: bits 31 to 0
are the command word, bits 95 to 32 the operand; a bit at or above `nbits` is 0 (log 14). -/
def tableWords (nbits w : Nat) : Word × Opnd :=
  (BitVec.ofNat 32 (w % 2 ^ nbits), BitVec.ofNat 64 ((w % 2 ^ nbits) / 2 ^ 32))

/-- What `decode` reads from an instruction given as the opcode table's number (log 14). -/
def decodeTableWord (nbits w : Nat) : Option Instr :=
  match decode (tableWords nbits w).1 (tableWords nbits w).2 with
  | .ok i => some i
  | .error _ => none

end Sys2Proof
end

