-- ==== Sys2Proof/Machine/Binary64.lean ====
section
/-! DEFINITION. The IEEE 754 binary64 primitives of 00_scope.md R16, exact: a finite number is a sign and a magnitude
counted in units of 2^-1074, the least positive binary64, so every operation is integer arithmetic and one rounding.
The format and its arithmetic are the spec's general knowledge (G1 to G3; log 9). -/

namespace Sys2Proof.Machine

/-- A binary64 value. -/
inductive F64 where
  /-- Not a number; the payload is not kept, since no rule reads it (log 9). -/
  | nan
  /-- An infinity, by its sign bit. -/
  | inf (neg : Bool)
  /-- A finite number, zero included: the sign bit and the magnitude in units of 2^-1074. -/
  | fin (neg : Bool) (mag : Nat)
  deriving DecidableEq, Repr

/-- One, counted in units of 2^-1074. -/
def F64.one : Nat := 2 ^ 1074

/-- `f64(bits)`: sign in bit 63, biased exponent in bits 62 to 52, fraction in bits 51 to 0 (R16, R94). -/
def f64 (bits : BitVec 64) : F64 :=
  let neg := bits.getLsbD 63
  let exp := (bits.extractLsb' 52 11).toNat
  let frac := (bits.extractLsb' 0 52).toNat
  if exp = 2047 then (if frac = 0 then .inf neg else .nan)
  else if exp = 0 then .fin neg frac
  else .fin neg ((2 ^ 52 + frac) * 2 ^ (exp - 1))

/-- The number of bits of `n`: 0 for 0, else the position of its highest 1 plus 1. -/
def bitLength (n : Nat) : Nat := if n = 0 then 0 else n.log2 + 1

/-- `num / den` (in units of 2^-1074) rounded once to the 53-bit numbers, to nearest, ties to even, with no bound above
(R16). The unit in the last place is 1 below 2^53 and doubles with every further bit. -/
def roundNearest (num den : Nat) : Nat :=
  let s := bitLength (num / den) - 53
  let unit := den * 2 ^ s
  let q := num / unit
  let r := num % unit
  let up := decide (unit < 2 * r) || (decide (2 * r = unit) && decide (q % 2 = 1))
  (if up then q + 1 else q) * 2 ^ s

/-- The binary64 nearest to `num / den` units with the sign given; infinite from 2^1024 on (R16). -/
def F64.ofRatio (neg : Bool) (num den : Nat) : F64 :=
  let m := roundNearest num den
  if 2 ^ 2098 ≤ m then .inf neg else .fin neg m

/-- The signed value of a finite number, in units of 2^-1074. -/
def signedMag (neg : Bool) (mag : Nat) : Int := if neg then -(mag : Int) else mag

/-- `mul64(a, b)`: the product, rounded once (R16). -/
def mul64 : F64 → F64 → F64
  | .nan, _ => .nan
  | _, .nan => .nan
  | .inf s, .inf t => .inf (s != t)
  | .inf s, .fin t m => if m = 0 then .nan else .inf (s != t)
  | .fin s m, .inf t => if m = 0 then .nan else .inf (s != t)
  | .fin s m, .fin t n => F64.ofRatio (s != t) (m * n) F64.one

/-- `sub64(a, b)`: the difference, rounded once; an exact zero is `+0` unless it is `-0 - +0` (R16). -/
def sub64 : F64 → F64 → F64
  | .nan, _ => .nan
  | _, .nan => .nan
  | .inf s, .inf t => if s = t then .nan else .inf s
  | .inf s, .fin _ _ => .inf s
  | .fin _ _, .inf t => .inf (!t)
  | .fin s m, .fin t n =>
    let v := signedMag s m - signedMag t n
    if v = 0 then .fin (s && !t) 0 else F64.ofRatio (decide (v < 0)) v.natAbs 1

/-- `toF64(n)`, exact for |n| < 2^53 (R16). -/
def toF64 (n : Int) : F64 := F64.ofRatio (decide (n < 0)) (n.natAbs * F64.one) 1

/-- `isNaN(x)` (R16). -/
def F64.isNaN : F64 → Bool
  | .nan => true
  | .inf _ => false
  | .fin _ _ => false

/-- `isInf(x)` (R16). -/
def F64.isInf : F64 → Bool
  | .nan => false
  | .inf _ => true
  | .fin _ _ => false

/-- `isNeg(x)`: the sign bit is 1 and `x` is neither zero nor NaN (R16). -/
def F64.isNeg : F64 → Bool
  | .nan => false
  | .inf neg => neg
  | .fin neg mag => neg && decide (mag ≠ 0)

/-- `trunc(r)` of a finite number: the integer part, toward zero (R14). -/
def truncFin (neg : Bool) (mag : Nat) : Int := (signedMag neg mag).tdiv (F64.one : Int)

/-- The bits of a binary64 value, the inverse of `f64`; a NaN is given the quiet pattern 0x7FF8_0000_0000_0000. Used by
the assembler only (R107). -/
def F64.toBits : F64 → BitVec 64
  | .nan => 0x7FF8000000000000#64
  | .inf neg => BitVec.ofBool neg ++ (2047#11 ++ 0#52)
  | .fin neg mag =>
    if mag < 2 ^ 52 then BitVec.ofBool neg ++ (0#11 ++ BitVec.ofNat 52 mag)
    else
      let e := bitLength mag - 52
      BitVec.ofBool neg ++ (BitVec.ofNat 11 e ++ BitVec.ofNat 52 (mag / 2 ^ (e - 1)))

end Sys2Proof.Machine
end

