-- ==== Sys2Proof/Config.lean ====
section
/-! DEFINITION. The two parameters the spec leaves open (00_scope.md R11). The constants the source fixes (R9) stand as
numerals in the meanings, where the spec's pseudocode has them. No rule leaves a value free, so there is no free value. -/

namespace Sys2Proof

/-- The free part of `LATENCY`: an opaque number (R11, U13; log 24). -/
opaque Config.latencyPred : Nat

/-- `LATENCY`, the clock cycles from acceptance to response, any integer at least 1; no rule depends on it (R11). -/
def Config.latency : Nat := Config.latencyPred + 1

/-- The free part of `NINST`: an opaque number (R11, U14; log 24). -/
opaque Config.ninstPred : Nat

/-- `NINST`, the number of instances on a chip, any integer at least 1 (R11). -/
def Config.ninst : Nat := Config.ninstPred + 1

end Sys2Proof
end

