-- ==== Sys2Proof/Machine/State.lean ====
section
/-! DEFINITION. The state of the block: exactly the registers of 10_state.md (R30), the response channel of
30_encoding.md R90, and the host's coming inputs (the model's own field, log 1). Plain data throughout. -/

namespace Sys2Proof.Machine

/-- PHASE, the position in the source's call cycle; its value 3 is never written and cannot be said here (R44; log 7). -/
inductive Phase where
  /-- 0: the next operation in order is FBEGIN. -/
  | awaitFrame
  /-- 1: the next operation in order is MAXBITS, or FEND once every slot is done. -/
  | awaitGranule
  /-- 2: the next operation in order is ADJUST. -/
  | awaitAdjust
  deriving DecidableEq, Repr

/-- STATUS.LAST_PLAN, what the last FEND did with its stuffing bits; its value 3 is never written and cannot be said
here (R43; log 7). -/
inductive Plan where
  /-- 0, NONE: no stuffing placed. -/
  | none
  /-- 1, PLAN_A: all stuffing added to GUR[0][0]. -/
  | planA
  /-- 2, PLAN_B: stuffing spread over the slots, the rest to DRAIN. -/
  | planB
  deriving DecidableEq, Repr

/-- The five diagnostic events, by their sticky STATUS flag (R42, R221). -/
inductive StatusFlag where
  /-- bit 0: a source operation out of the call order. -/
  | seqErr
  /-- bit 1: an illegal command word. -/
  | illegal
  /-- bit 2: a PE operand that is NaN, infinite, or negative and nonzero. -/
  | peInvalid
  /-- bit 3: a write to SIZE saturated. -/
  | sat
  /-- bit 4: WRCFG while a frame is open. -/
  | cfgErr
  deriving DecidableEq, Repr

/-- The STATUS register by its fields (R42). Its bits 7 to 5 and 31 to 10 read as 0 and hold nothing. -/
structure Status where
  seqErr : Bool
  illegal : Bool
  peInvalid : Bool
  sat : Bool
  cfgErr : Bool
  lastPlan : Plan
  deriving DecidableEq, Repr

/-- The record file GUR[2][2] (R38): field `gc` is `GUR[g][c]`. -/
structure RecordFile where
  r00 : Record
  r01 : Record
  r10 : Record
  r11 : Record
  deriving DecidableEq, Repr

/-- A command as it reaches the ports: the command word and the operand sampled with it (R19, R90). -/
structure Command where
  cw : Word
  opnd : Opnd
  deriving DecidableEq, Repr

/-- What the host drives on the input ports at one rising edge of `clk` (R90). -/
structure Pins where
  /-- `rst`, synchronous, active high (R250). -/
  rst : Bool
  /-- `cmd_valid`: the host offers a command. -/
  cmdValid : Bool
  /-- `cmd_word` and `cmd_opnd`: the command offered. -/
  cmd : Command
  /-- `rsp_ready`: the host takes the response. -/
  rspReady : Bool
  deriving DecidableEq, Repr

/-- The state of one block. -/
structure State where
  /-- SIZE, 32 bits, read as a signed number (R33). -/
  size : BitVec 32
  /-- MAX, 13 bits, unsigned (R35). -/
  max : BitVec 13
  /-- CFG.MEAN, 16 bits, unsigned (R36). -/
  mean : BitVec 16
  /-- CFG.STEREO (R37). -/
  stereo : Bool
  /-- GUR[2][2] (R38). -/
  gur : RecordFile
  /-- DRAIN, 32 bits, unsigned (R39). -/
  drain : BitVec 32
  /-- RESULT, 32 bits, read as a signed number (R40). -/
  result : BitVec 32
  /-- STUFF, 32 bits, read as a signed number (R41). -/
  stuff : BitVec 32
  /-- STATUS (R42). -/
  status : Status
  /-- PHASE (R44). -/
  phase : Phase
  /-- SLOT, 3 bits, unsigned (R45). -/
  slot : BitVec 3
  /-- The response offered and not yet taken: `some w` is `rsp_valid = 1` with `rsp_word = w`, `none` is
  `rsp_valid = 0` (R90, R103; log 4). -/
  rsp : Option Word
  /-- The model's own field, not the spec's: what the host will drive on the ports, oldest first (log 1). -/
  inputs : List Pins
  deriving DecidableEq, Repr

/-- The reasons a step stops with a fault: there is none, since "no operation can fail" (R220). No one raises it;
safe, because the block never stops (log 19). -/
inductive Fault where
  deriving DecidableEq, Repr

/-- The reasons a step is refused. -/
inductive Refusal where
  /-- An instruction without a meaning, rejected by its mnemonic: raised by a refused arm of `exec` only, of which
  there is none; safe. -/
  | notModelled (mnemonic : String)
  deriving DecidableEq, Repr

/-- STATUS after reset: 0x0000_0000 (R42, R69). -/
def Status.reset : Status :=
  { seqErr := false, illegal := false, peInvalid := false, sat := false, cfgErr := false, lastPlan := .none }

/-- The record file with every entry 0: after reset (R69) and after CLRSIDE (R200). -/
def RecordFile.zero : RecordFile := { r00 := 0, r01 := 0, r10 := 0, r11 := 0 }

/-- The state right after reset (R69, R250): every register 0, PHASE = AWAIT_FRAME, no response offered; the host has
driven nothing yet (log 1). -/
def State.reset : State :=
  { size := 0, max := 0, mean := 0, stereo := false, gur := RecordFile.zero, drain := 0, result := 0, stuff := 0,
    status := Status.reset, phase := .awaitFrame, slot := 0, rsp := none, inputs := [] }

end Sys2Proof.Machine
end

