-- ==== Sys2Proof/Machine/Ops.lean ====
section
/-! DEFINITION. The named operations over the registers: one write per register, the record file's accessors, the
register primitives of 00_scope.md R15, the sticky events of 60_exceptions.md R221 to R224 (which stand where another
machine takes an exception), and the illegal command of 30_encoding.md R104. -/

namespace Sys2Proof.Machine

/-! One plain write per register. -/

/-- Write SIZE. -/
def State.setSize (s : State) (v : BitVec 32) : State := { s with size := v }
/-- Write MAX. -/
def State.setMax (s : State) (v : BitVec 13) : State := { s with max := v }
/-- Write CFG: both its fields at once, as WRCFG does (R192). -/
def State.setCfg (s : State) (mean : BitVec 16) (stereo : Bool) : State := { s with mean := mean, stereo := stereo }
/-- Write the whole record file. -/
def State.setGur (s : State) (v : RecordFile) : State := { s with gur := v }
/-- Write DRAIN. -/
def State.setDrain (s : State) (v : BitVec 32) : State := { s with drain := v }
/-- Write RESULT. -/
def State.setResult (s : State) (v : BitVec 32) : State := { s with result := v }
/-- Write STUFF. -/
def State.setStuff (s : State) (v : BitVec 32) : State := { s with stuff := v }
/-- Write STATUS. -/
def State.setStatus (s : State) (v : Status) : State := { s with status := v }
/-- Write PHASE. -/
def State.setPhase (s : State) (v : Phase) : State := { s with phase := v }
/-- Write SLOT. -/
def State.setSlot (s : State) (v : BitVec 3) : State := { s with slot := v }
/-- Set the response channel: offer a word, or offer none (R90). -/
def State.setRsp (s : State) (v : Option Word) : State := { s with rsp := v }
/-- Set what the host will drive on the ports (log 1). -/
def State.setInputs (s : State) (v : List Pins) : State := { s with inputs := v }

/-! The record file. -/

/-- `GUR[g][c]` (R15, R38). -/
def RecordFile.get (f : RecordFile) : Granule → Channel → Record
  | .g0, .c0 => f.r00
  | .g0, .c1 => f.r01
  | .g1, .c0 => f.r10
  | .g1, .c1 => f.r11

/-- `GUR[g][c] <- v` (R15, R38). -/
def RecordFile.set (f : RecordFile) (g : Granule) (c : Channel) (v : Record) : RecordFile :=
  match g, c with
  | .g0, .c0 => { f with r00 := v }
  | .g0, .c1 => { f with r01 := v }
  | .g1, .c0 => { f with r10 := v }
  | .g1, .c1 => { f with r11 := v }

/-! Sticky events. -/

/-- One sticky flag of STATUS (R42). -/
def Status.get (st : Status) : StatusFlag → Bool
  | .seqErr => st.seqErr
  | .illegal => st.illegal
  | .peInvalid => st.peInvalid
  | .sat => st.sat
  | .cfgErr => st.cfgErr

/-- Set the flag if the event happened; a sticky flag is never cleared here (R42, R221). -/
def Status.raise (st : Status) (f : StatusFlag) (happened : Bool) : Status :=
  match f with
  | .seqErr => { st with seqErr := st.seqErr || happened }
  | .illegal => { st with illegal := st.illegal || happened }
  | .peInvalid => { st with peInvalid := st.peInvalid || happened }
  | .sat => { st with sat := st.sat || happened }
  | .cfgErr => { st with cfgErr := st.cfgErr || happened }

/-- Write STATUS.LAST_PLAN (R43). -/
def Status.setPlan (st : Status) (p : Plan) : Status := { st with lastPlan := p }

/-- `if happened: flag f` (R15). It is the block's whole reaction to an event: nothing is saved, no mode changes and
nothing is redirected (R222, R224). -/
def State.flagIf (s : State) (f : StatusFlag) (happened : Bool) : State := s.setStatus (s.status.raise f happened)

/-- Write STATUS.LAST_PLAN (R43). -/
def State.setPlan (s : State) (p : Plan) : State := s.setStatus (s.status.setPlan p)

/-! The saturating write. -/

/-- `clamp(v, -2^31, 2^31 - 1)` (R15). -/
def clamp32 (v : Int) : Int := max (-2147483648) (min v 2147483647)

/-- `v` lies outside the range of a signed 32-bit register (R15). -/
def outside32 (v : Int) : Bool := decide (v < -2147483648) || decide (2147483647 < v)

/-- `SIZE <-sat v`: the clamped value, and SAT if `v` was outside the range (R15, R162). -/
def State.writeSizeSat (s : State) (v : Int) : State :=
  (s.setSize (BitVec.ofInt 32 (clamp32 v))).flagIf .sat (outside32 v)

/-- `SIZE <- v`, for a `v` the rule keeps in range (R15). -/
def State.writeSize (s : State) (v : Int) : State := s.setSize (BitVec.ofInt 32 v)

/-! Responses and the illegal command. -/

/-- `respond w`: offer the response word (R15, R103). -/
def State.respond (s : State) (w : Word) : State := s.setRsp (some w)

/-- What an illegal command does, all of it: flag ILLEGAL, respond 0 (R104). It is not a trap. -/
def State.illegalCommand (s : State) : State := (s.flagIf .illegal true).respond 0

/-! Register images. -/

/-- PHASE as its two bits (R44). -/
def Phase.bits : Phase → BitVec 2
  | .awaitFrame => 0#2
  | .awaitGranule => 1#2
  | .awaitAdjust => 2#2

/-- LAST_PLAN as its two bits (R43). -/
def Plan.bits : Plan → BitVec 2
  | .none => 0#2
  | .planA => 1#2
  | .planB => 2#2

/-- The STATUS register as the 32-bit word RDREG returns (R42). -/
def Status.image (st : Status) : Word :=
  0#22 ++ (st.lastPlan.bits ++ (0#3 ++ (BitVec.ofBool st.cfgErr ++ (BitVec.ofBool st.sat ++
    (BitVec.ofBool st.peInvalid ++ (BitVec.ofBool st.illegal ++ BitVec.ofBool st.seqErr))))))

/-- `oor` of the MDB image: SIZE is not a multiple of 8 in 0 to 4088 (R46). -/
def State.mdbOutOfRange (s : State) : Bool :=
  !(decide (0 ≤ s.size.toInt) && decide (s.size.toInt ≤ 4088) && decide (s.size.toInt.tmod 8 = 0))

/-- `mdb`: the low 9 bits of SIZE shifted right arithmetically by 3 (R46). -/
def State.mdb (s : State) : BitVec 9 := (s.size.sshiftRight 3).extractLsb' 0 9

/-- The register image of selector `sel`; none for the reserved selectors 9 to 15 (R100). -/
def State.image (s : State) (sel : BitVec 4) : Option Word :=
  match sel.toNat with
  | 0 => some s.size
  | 1 => some (s.max.setWidth 32)
  | 2 => some s.drain
  | 3 => some s.status.image
  | 4 => some (0#15 ++ (BitVec.ofBool s.stereo ++ s.mean))
  | 5 => some (0#25 ++ (s.slot ++ (0#2 ++ s.phase.bits)))
  | 6 => some s.result
  | 7 => some s.stuff
  | 8 => some (0#22 ++ (BitVec.ofBool s.mdbOutOfRange ++ s.mdb))
  | _ => none

/-- The edge with `rst = 1`: every register takes its reset value and a response not yet taken is abandoned; what the
host will drive next is the host's and stays (R250; log 5). -/
def State.resetEdge (s : State) : State := State.reset.setInputs s.inputs

end Sys2Proof.Machine
end

