-- ==== Sys2Proof/Machine/Operands.lean ====
section
/-! DEFINITION. The values the commands compute with: operand fields read as integers (30_encoding.md R93 to R99), the
channel count, the share and the slots (00_scope.md R17, R19), and the binary64 step of MAXBITS
(41_granule_allocator.md R143). `a div b` is `Int.tdiv a b` and `a rem b` is `Int.tmod a b` (R14). -/

namespace Sys2Proof.Machine

/-- An unsigned field as an integer; no operand is sign-extended, scaled or shifted (R99). -/
def uint {w : Nat} (v : BitVec w) : Int := v.toNat

/-- `nch = 1 + CFG.STEREO` (R17, R37). -/
def State.nch (s : State) : Nat := if s.stereo then 2 else 1

/-- `share = CFG.MEAN div nch` (R17, R141 step 1). -/
def State.share (s : State) : Int := (uint s.mean).tdiv s.nch

/-- The slots of a frame in the order Plan B visits them: granules 0, 1, and in each channels 0 to nch - 1 (R177). -/
def slotsOf (stereo : Bool) : List Slot :=
  if stereo then [(.g0, .c0), (.g0, .c1), (.g1, .c0), (.g1, .c1)] else [(.g0, .c0), (.g1, .c0)]

/-- `C31 = f64(0x4008_CCCC_CCCC_CCCD)`, the binary64 nearest to 3.1 (R143; log 10). -/
def c31 : F64 := f64 0x4008CCCCCCCCCCCD#64

/-- `clamp(v, -2^40, 2^40)` (R143). -/
def clamp40 (v : Int) : Int := max (-1099511627776) (min v 1099511627776)

/-- The last line of MOREBITS: `t` truncated to an integer, infinities and large values limited to 2^40 (R143). The
NaN case cannot arise there, since PE is no NaN and C31 and the share are finite; it is 0 (log 11). -/
def truncLimited : F64 → Int
  | .nan => 0
  | .inf neg => if neg then -1099511627776 else 1099511627776
  | .fin neg mag => clamp40 (truncFin neg mag)

/-- `MOREBITS(PE, share)`: the product and the difference each rounded once, nothing fused; 0 for a NaN (R143). -/
def moreBits (pe : F64) (share : Int) : Int :=
  if pe.isNaN then 0 else truncLimited (sub64 (mul64 pe c31) (toF64 share))

end Sys2Proof.Machine
end

