-- ==== Sys2Proof/Machine/Flags.lean ====
section
/-! DEFINITION. When each diagnostic event happens: the causes of 60_exceptions.md R221, one definition per command and
flag. (SAT is `outside32` of Machine/Ops.lean; ILLEGAL is the decoder's and `recordIllegal`.) -/

namespace Sys2Proof.Machine

/-- SEQ_ERR of FBEGIN: PHASE is not AWAIT_FRAME (R133). -/
def State.seqErrFbegin (s : State) : Bool := decide (s.phase ≠ .awaitFrame)

/-- SEQ_ERR of MAXBITS: not (PHASE = AWAIT_GRANULE and SLOT < 2 nch) (R147). -/
def State.seqErrMaxbits (s : State) : Bool :=
  !(decide (s.phase = .awaitGranule) && decide (s.slot.toNat < 2 * s.nch))

/-- SEQ_ERR of ADJUST: PHASE is not AWAIT_ADJUST (R163). -/
def State.seqErrAdjust (s : State) : Bool := decide (s.phase ≠ .awaitAdjust)

/-- SEQ_ERR of FEND: not (PHASE = AWAIT_GRANULE and SLOT = 2 nch) (R179). -/
def State.seqErrFend (s : State) : Bool :=
  !(decide (s.phase = .awaitGranule) && decide (s.slot.toNat = 2 * s.nch))

/-- CFG_ERR of WRCFG: PHASE is not AWAIT_FRAME (R193). -/
def State.cfgErrWrcfg (s : State) : Bool := decide (s.phase ≠ .awaitFrame)

/-- PE_INVALID of MAXBITS: NaN, infinite, or negative and nonzero (R142). -/
def peInvalid (pe : F64) : Bool := pe.isNaN || pe.isInf || pe.isNeg

/-- ILLEGAL of WRREC and RDREC: channel 1 while one channel is configured (R102, R104). -/
def State.recordIllegal (s : State) (ch : Channel) : Bool := decide (ch = .c1) && !s.stereo

end Sys2Proof.Machine
end

