-- ==== Sys2Proof/Machine/Accumulator.lean ====
section
/-! DEFINITION. ADJUST, the saturation-clamped accumulator (42_accumulator.md R160 to R165). -/

namespace Sys2Proof.Machine

/-- `min(SLOT + 1, 7)` (R45, R160). -/
def nextSlot (slot : BitVec 3) : BitVec 3 := BitVec.ofNat 3 (min (slot.toNat + 1) 7)

/-- ADJUST (R160): the exact sum `SIZE + share - USED`, written with saturation (R161, R162). -/
def execAdjust (used : BitVec 12) (s : State) : Host.Outcome State Fault Refusal :=
  .next (((((s.flagIf .seqErr s.seqErrAdjust).writeSizeSat (s.size.toInt + s.share - uint used)).setSlot
    (nextSlot s.slot)).setPhase .awaitGranule).respond 0)

end Sys2Proof.Machine
end

