-- ==== Sys2Proof/Machine/Allocator.lean ====
section
/-! DEFINITION. MAXBITS, the granule bit-budget allocator (41_granule_allocator.md R140 to R149). -/

namespace Sys2Proof.Machine

/-- Step 5: the part of the bank one granule may borrow, `min((SIZE * 6) div 10, moreBits)` if `moreBits > 100` (R140). -/
def grantedBits (size more : Int) : Int :=
  if 100 < more then min ((size * 6).tdiv 10) more else 0

/-- Steps 5 and 6: the grant, plus whatever SIZE holds above 80 % of MAX and above the grant (R140). -/
def extraBits (size max more : Int) : Int :=
  let extra := grantedBits size more
  let above := size - (max * 8).tdiv 10 - extra
  if 0 < above then extra + above else extra

/-- Steps 2, 3 and 7: the budget, with no borrowing when MAX = 0, never above 4095 (R140, R145). -/
def budget (share size max more : Int) : Int :=
  if max ≠ 0 then min (min share 4095 + extraBits size max more) 4095 else min share 4095

/-- The value MAXBITS computes in state `s` for the operand bits `pe` (R140). -/
def State.maxBits (s : State) (pe : Opnd) : Int :=
  budget s.share s.size.toInt (uint s.max) (moreBits (f64 pe) s.share)

/-- MAXBITS (R140). -/
def execMaxbits (pe : Opnd) (s : State) : Host.Outcome State Fault Refusal :=
  let r : BitVec 32 := BitVec.ofInt 32 (s.maxBits pe)
  .next (((((s.flagIf .seqErr s.seqErrMaxbits).flagIf .peInvalid (peInvalid (f64 pe))).setResult r).setPhase
    .awaitAdjust).respond r)

end Sys2Proof.Machine
end

