-- ==== Sys2Proof/Machine/FrameBegin.lean ====
section
/-! DEFINITION. FBEGIN, the frame-begin arbiter (40_frame_begin.md R130 to R135). -/

namespace Sys2Proof.Machine

/-- The frame's ceiling for a frame of `len` bits: the subtraction first, the 4088 clamp second (R131). -/
def frameCeiling (len : Int) : Int :=
  min (if len ≤ 7680 then 7680 - len else 0) 4088

/-- FBEGIN (R130). -/
def execFbegin (len : BitVec 16) (s : State) : Host.Outcome State Fault Refusal :=
  .next (((((s.flagIf .seqErr s.seqErrFbegin).setMax (BitVec.ofInt 13 (frameCeiling (uint len)))).setPhase
    .awaitGranule).setSlot 0).respond 0)

end Sys2Proof.Machine
end

