-- ==== Sys2Proof/Machine/FrameEnd.lean ====
section
/-! DEFINITION. FEND, the frame-end arbiter and the placement of stuffing bits (43_frame_end.md R170 to R181). -/

namespace Sys2Proof.Machine

/-- Step 1, the parity fix: with two channels and an odd mean, SIZE grows by 1 (R171). -/
def State.parityFix (s : State) : State :=
  if s.stereo && decide ((uint s.mean).tmod 2 = 1) then s.writeSizeSat (s.size.toInt + 1) else s

/-- Step 2: the bits above the ceiling, `max(0, SIZE - MAX)` (R172). -/
def overBits (size max : Int) : Int := if 0 < size - max then size - max else 0

/-- Step 3: the remainder of the clamped size, with its sign; no clamp at 0 (R173). -/
def alignBits (size max : Int) : Int := (size - overBits size max).tmod 8

/-- The size that steps 2 and 3 leave, from the size after step 1 (R172, R173). -/
def settledSize (size max : Int) : Int := size - overBits size max - alignBits size max

/-- The stuffing count that steps 2 and 3 leave, from the size after step 1 (R175). -/
def stuffingBits (size max : Int) : Int := overBits size max + alignBits size max

/-- Steps 2 and 3 and the write of STUFF (R172, R173, R175). -/
def State.settle (s : State) : State :=
  (s.writeSize (settledSize s.size.toInt (uint s.max))).setStuff
    (BitVec.ofInt 32 (stuffingBits s.size.toInt (uint s.max)))

/-- One visit of Plan B: the record takes `min(4095 - record, remaining)`; the file and what remains (R177). -/
def placeIn (f : RecordFile) (g : Granule) (c : Channel) (remaining : Nat) : RecordFile × Nat :=
  let put := min (4095 - (f.get g c).toNat) remaining
  (f.set g c (BitVec.ofNat 12 ((f.get g c).toNat + put)), remaining - put)

/-- Plan B over the slots in order, stopping early once nothing remains (R177). -/
def placeAll : List Slot → RecordFile → Nat → RecordFile × Nat
  | [], f, remaining => (f, remaining)
  | (g, c) :: rest, f, remaining =>
    if remaining = 0 then (f, 0) else placeAll rest (placeIn f g c remaining).1 (placeIn f g c remaining).2

/-- Plan A fits: `GUR[0][0] + stuff < 4095`, strictly (R176). -/
def State.planAFits (s : State) (stuff : Nat) : Bool := decide ((s.gur.get .g0 .c0).toNat + stuff < 4095)

/-- Plan A: all stuffing to GUR[0][0]; DRAIN is not written (R176). -/
def State.planA (s : State) (stuff : Nat) : State :=
  (s.setGur (s.gur.set .g0 .c0 (BitVec.ofNat 12 ((s.gur.get .g0 .c0).toNat + stuff)))).setPlan .planA

/-- Plan B: the stuffing over the slots, what remains to DRAIN (R177, R178). -/
def State.planB (s : State) (stuff : Nat) : State :=
  ((s.setGur (placeAll (slotsOf s.stereo) s.gur stuff).1).setDrain
    (BitVec.ofNat 32 (placeAll (slotsOf s.stereo) s.gur stuff).2)).setPlan .planB

/-- Step 4: only a positive count is placed (R170, R175). -/
def State.place (s : State) (stuff : Int) : State :=
  if 0 < stuff then
    if s.planAFits stuff.toNat then s.planA stuff.toNat else s.planB stuff.toNat
  else s.setPlan .none

/-- FEND (R170): the order check, steps 1 to 4 in order, then PHASE. Step 4 places the count that step 3 wrote to STUFF. -/
def execFend (s : State) : Host.Outcome State Fault Refusal :=
  let s1 := (s.flagIf .seqErr s.seqErrFend).parityFix
  .next (((s1.settle.place (stuffingBits s1.size.toInt (uint s1.max))).setPhase .awaitFrame).respond 0)

end Sys2Proof.Machine
end

