-- ==== Sys2Proof/Machine/HostAccess.lean ====
section
/-! DEFINITION. The host access commands (44_host_access.md R190 to R200). -/

namespace Sys2Proof.Machine

/-- NOP (R190): respond 0, nothing else. -/
def execNop (s : State) : Host.Outcome State Fault Refusal := .next (s.respond 0)

/-- WRCFG (R192): CFG is written in every phase; outside AWAIT_FRAME it also sets CFG_ERR (R193). -/
def execWrcfg (mean : BitVec 16) (stereo : Bool) (s : State) : Host.Outcome State Fault Refusal :=
  .next (((s.flagIf .cfgErr s.cfgErrWrcfg).setCfg mean stereo).respond 0)

/-- WRREC (R194), illegal for channel 1 while one channel is configured (R104). -/
def execWrrec (gr : Granule) (ch : Channel) (val : Record) (s : State) : Host.Outcome State Fault Refusal :=
  if s.recordIllegal ch then .next s.illegalCommand
  else .next ((s.setGur (s.gur.set gr ch val)).respond 0)

/-- RDREC (R196), illegal for channel 1 while one channel is configured (R104). -/
def execRdrec (gr : Granule) (ch : Channel) (s : State) : Host.Outcome State Fault Refusal :=
  if s.recordIllegal ch then .next s.illegalCommand
  else .next (s.respond ((s.gur.get gr ch).setWidth 32))

/-- RDREG (R198): the image of the selector; a selector 9 to 15 is an illegal command (R104; log 12). -/
def execRdreg (sel : BitVec 4) (s : State) : Host.Outcome State Fault Refusal :=
  match s.image sel with
  | some w => .next (s.respond w)
  | none => .next s.illegalCommand

/-- CLRSIDE (R200): every record, whatever CFG.STEREO is, and DRAIN become 0. -/
def execClrside (s : State) : Host.Outcome State Fault Refusal :=
  .next (((s.setGur RecordFile.zero).setDrain 0).respond 0)

end Sys2Proof.Machine
end

