-- ==== Sys2Proof/Machine/Dispatch.lean ====
section
/-! DEFINITION. One arm per command (30_encoding.md R101): each calls the meaning of its command. -/

namespace Sys2Proof.Machine

/-- Execute one legal command: one indivisible step (20_memory.md R73). -/
def exec (i : Instr) (s : State) : Host.Outcome State Fault Refusal :=
  match i with
  | .nop => Sys2Proof.Machine.execNop s
  | .fbegin len => Sys2Proof.Machine.execFbegin len s
  | .maxbits pe => Sys2Proof.Machine.execMaxbits pe s
  | .adjust used => Sys2Proof.Machine.execAdjust used s
  | .fend => Sys2Proof.Machine.execFend s
  | .wrcfg mean stereo => Sys2Proof.Machine.execWrcfg mean stereo s
  | .wrrec gr ch val => Sys2Proof.Machine.execWrrec gr ch val s
  | .rdrec gr ch => Sys2Proof.Machine.execRdrec gr ch s
  | .rdreg sel => Sys2Proof.Machine.execRdreg sel s
  | .clrside => Sys2Proof.Machine.execClrside s

end Sys2Proof.Machine
end

