-- ==== Sys2Proof/Machine/Port.lean ====
section
/-! DEFINITION. The ports (30_encoding.md R90) and what one rising edge of the clock does: reset, the taking of a
response, the acceptance and execution of a command, or nothing. Untimed: the edges spent between acceptance and
response are not steps (R264; log 2). -/

namespace Sys2Proof.Machine

/-- `cmd_ready`: 0 under reset, and from acceptance until the response has been taken (R90, R250). -/
def State.cmdReady (s : State) (rst : Bool) : Bool := !rst && s.rsp.isNone

/-- `rsp_valid`: a response is offered; 0 under reset (R90, R250). -/
def State.rspValid (s : State) (rst : Bool) : Bool := !rst && s.rsp.isSome

/-- Accept a command: decode it; a legal one is executed, an illegal one does what R104 says (R102). -/
def accept (c : Command) (s : State) : Host.Outcome State Fault Refusal :=
  match decode c.cw c.opnd with
  | .ok i => exec i s
  | .error _ => .next s.illegalCommand

/-- One rising edge of `clk` with the given input pins (R90, R250): under `rst` the reset; else, while a response is
offered, it is taken or held and no command is accepted; else a command offered is accepted and executed. -/
def clockEdge (p : Pins) (s : State) : Host.Outcome State Fault Refusal :=
  if p.rst then .next s.resetEdge
  else if s.rsp.isSome then .next (if p.rspReady then s.setRsp none else s)
  else if p.cmdValid then accept p.cmd s
  else .next s

/-- The next edge the host drives, or, when it drives none, the block holding its state (R74, R234; log 3). -/
def nextEdge (s : State) : Host.Outcome State Fault Refusal :=
  match s.inputs with
  | [] => .next s
  | p :: rest => clockEdge p (s.setInputs rest)

/-- The pins of an edge at which the host offers a command. -/
def Pins.offer (c : Command) : Pins := { rst := false, cmdValid := true, cmd := c, rspReady := false }

/-- The pins of an edge at which the host takes a response and offers nothing. -/
def Pins.take : Pins := { rst := false, cmdValid := false, cmd := { cw := 0, opnd := 0 }, rspReady := true }

/-- The pins of an edge at which the host asserts reset. -/
def Pins.reset : Pins := { rst := true, cmdValid := false, cmd := { cw := 0, opnd := 0 }, rspReady := false }

/-- Put a command where the block accepts its next one: the next edge offers it, and no response is left to be taken
first (log 14). -/
def State.offerNext (s : State) (c : Command) : State := (s.setRsp none).setInputs (Pins.offer c :: s.inputs)

/-- A command accepted and its response taken: one command of a run (R265). -/
def State.issue (s : State) (c : Command) : Host.Outcome State Fault Refusal :=
  match accept c s with
  | .next t => .next (t.setRsp none)
  | .fault r => .fault r
  | .refused r => .refused r

/-- A session (R253, R265): a finite sequence of accepted commands, each with its response taken, in order. -/
def State.runSession (s : State) : List Command → Host.Outcome State Fault Refusal
  | [] => .next s
  | c :: rest =>
    match s.issue c with
    | .next t => t.runSession rest
    | .fault r => .fault r
    | .refused r => .refused r

end Sys2Proof.Machine
end

