-- ==== Sys2Proof/Machine/Step.lean ====
section
/-! DEFINITION. One step of the machine: one rising edge of the clock (30_encoding.md R90), one step per accepted
command (R264). The host asks for `step` and for `State.withFetchWord`, the offering of an opcode-table word. -/

namespace Sys2Proof.Machine

/-- One step: the next edge that the host drives. -/
def step (s : State) : Host.Outcome State Fault Refusal := nextEdge s

/-- The state whose very next step accepts and runs the instruction with bits `w`, numbered as the opcode table
numbers them (log 14). -/
def State.withFetchWord (s : State) (nbits w : Nat) : State :=
  s.offerNext { cw := (tableWords nbits w).1, opnd := (tableWords nbits w).2 }

end Sys2Proof.Machine
end

