-- ==== Sys2Proof/Machine/Assembler.lean ====
section
/-! DEFINITION. The assembler of 30_encoding.md R107 and R108: from a line of text to the commands the host sends. It
is part of the spec but not of the block: no step of the machine uses it. Lexical details the rule leaves open are
log 17; decimal PE values are log 18. -/

namespace Sys2Proof.Machine

/-- The PE operand of `maxbits` as written (R107). -/
inductive PeLiteral where
  /-- `0x` and 16 hex digits: the bits themselves. -/
  | bits (b : Opnd)
  /-- A decimal real: `digits / 10 ^ places`, negative if `neg`. -/
  | decimal (neg : Bool) (digits places : Nat)
  deriving DecidableEq, Repr

/-- One line of assembler, its operands as the numbers written, before any check that they fit (R107, R108). -/
inductive AsmLine where
  | nop
  | fbegin (len : Nat)
  | maxbits (pe : PeLiteral)
  | adjust (used : Nat)
  | fend
  | wrcfg (mean : Nat) (stereo : Bool)
  | wrrec (gr ch val : Nat)
  | rdrec (gr ch : Nat)
  | rdreg (sel : Nat)
  | clrside
  /-- `word W`: a raw command word, legal or not, with OPND 0. -/
  | word (w : Nat)
  /-- `granule PE, USED`: `maxbits PE` ; `adjust USED`. -/
  | granule (pe : PeLiteral) (used : Nat)
  | rdsize
  | rddrain
  | rdstatus
  | rdmdb
  /-- `newframe LEN`: `clrside` ; `fbegin LEN`. -/
  | newframe (len : Nat)
  deriving DecidableEq, Repr

/-- The operand bits of a PE: a decimal is rounded to the nearest binary64, ties to even (R107; log 18). -/
def PeLiteral.toOpnd : PeLiteral → Opnd
  | .bits b => b
  | .decimal neg digits places => (F64.ofRatio neg (digits * F64.one) (10 ^ places)).toBits

/-- The command that a legal instruction is sent as (R107). -/
def Command.ofInstr (i : Instr) : Command := { cw := (encode i).1, opnd := (encode i).2 }

/-- A one-bit operand; any other number does not fit. -/
def bitOperand (n : Nat) : Option Bool :=
  match n with
  | 0 => some false
  | 1 => some true
  | _ => none

/-- A number as a field of `w` bits; "An assembler refuses an operand that does not fit its field; it never truncates"
(R107). -/
def fitOperand (w n : Nat) : Option (BitVec w) := if n < 2 ^ w then some (BitVec.ofNat w n) else none

/-- The commands of one line (R107), pseudo-instructions expanded (R108); none where an operand does not fit. -/
def AsmLine.assemble : AsmLine → Option (List Command)
  | .nop => some [Command.ofInstr .nop]
  | .fbegin len => do some [Command.ofInstr (.fbegin (← fitOperand 16 len))]
  | .maxbits pe => some [Command.ofInstr (.maxbits pe.toOpnd)]
  | .adjust used => do some [Command.ofInstr (.adjust (← fitOperand 12 used))]
  | .fend => some [Command.ofInstr .fend]
  | .wrcfg mean stereo => do some [Command.ofInstr (.wrcfg (← fitOperand 16 mean) stereo)]
  | .wrrec gr ch val => do
    some [Command.ofInstr (.wrrec (Granule.ofBit (← bitOperand gr)) (Channel.ofBit (← bitOperand ch))
      (← fitOperand 12 val))]
  | .rdrec gr ch => do
    some [Command.ofInstr (.rdrec (Granule.ofBit (← bitOperand gr)) (Channel.ofBit (← bitOperand ch)))]
  | .rdreg sel => if sel ≤ 8 then some [Command.ofInstr (.rdreg (BitVec.ofNat 4 sel))] else none
  | .clrside => some [Command.ofInstr .clrside]
  | .word w => do some [{ cw := ← fitOperand 32 w, opnd := 0 }]
  | .granule pe used => do
    some [Command.ofInstr (.maxbits pe.toOpnd), Command.ofInstr (.adjust (← fitOperand 12 used))]
  | .rdsize => some [Command.ofInstr (.rdreg 0)]
  | .rddrain => some [Command.ofInstr (.rdreg 2)]
  | .rdstatus => some [Command.ofInstr (.rdreg 3)]
  | .rdmdb => some [Command.ofInstr (.rdreg 8)]
  | .newframe len => do some [Command.ofInstr .clrside, Command.ofInstr (.fbegin (← fitOperand 16 len))]

/-! Reading a line of text. -/

/-- A space or a tab. -/
def isBlank (c : Char) : Bool := c == ' ' || c == '\t'

/-- Without the blanks at both ends. -/
def trimBlanks (cs : List Char) : List Char := ((cs.dropWhile isBlank).reverse.dropWhile isBlank).reverse

/-- The pieces of a text between the separators. -/
def splitChar (sep : Char) : List Char → List (List Char)
  | [] => [[]]
  | c :: rest =>
    if c = sep then [] :: splitChar sep rest
    else
      match splitChar sep rest with
      | [] => [[c]]
      | w :: ws => (c :: w) :: ws

/-- The value of a digit in the given base, 10 or 16. -/
def digitValue (base : Nat) (c : Char) : Option Nat :=
  let n := c.toNat
  let v := if 48 ≤ n ∧ n ≤ 57 then some (n - 48)
    else if 97 ≤ n ∧ n ≤ 102 then some (n - 87)
    else if 65 ≤ n ∧ n ≤ 70 then some (n - 55)
    else none
  match v with
  | some d => if d < base then some d else none
  | none => none

/-- The number that digits write after those already read. -/
def readDigits (base : Nat) (sofar : Nat) : List Char → Option Nat
  | [] => some sofar
  | c :: rest =>
    match digitValue base c with
    | some d => readDigits base (sofar * base + d) rest
    | none => none

/-- At least one digit, and nothing else. -/
def parseDigits (base : Nat) (cs : List Char) : Option Nat :=
  match cs with
  | [] => none
  | _ :: _ => readDigits base 0 cs

/-- A number: decimal, or `0x` and hex digits (R107). -/
def parseNumber (cs : List Char) : Option Nat :=
  match cs with
  | '0' :: 'x' :: rest => parseDigits 16 rest
  | _ => parseDigits 10 cs

/-- A PE operand: `0x` and exactly 16 hex digits, or a decimal real (R107). -/
def parsePe (cs : List Char) : Option PeLiteral :=
  match cs with
  | '0' :: 'x' :: rest =>
    if rest.length = 16 then do some (.bits (BitVec.ofNat 64 (← parseDigits 16 rest))) else none
  | '-' :: rest => decimalOf true rest
  | _ => decimalOf false cs
where
  /-- Digits, or digits, a point and digits. -/
  decimalOf (neg : Bool) (ds : List Char) : Option PeLiteral :=
    match splitChar '.' ds with
    | [whole] => do some (.decimal neg (← parseDigits 10 whole) 0)
    | [whole, part] => do
      let w ← parseDigits 10 whole
      let p ← parseDigits 10 part
      some (.decimal neg (w * 10 ^ part.length + p) part.length)
    | _ => none

/-- The NAMEs of `rdreg`, in selector order (R107). -/
def selectorNames : List String := ["size", "max", "drain", "status", "cfg", "phase", "result", "stuff", "mdb"]

/-- A selector: one of the nine names, or a number, which `AsmLine.assemble` limits to 0 to 8 (R107). -/
def parseSelector (cs : List Char) : Option Nat :=
  match selectorNames.findIdx? (fun n => n.toList == cs) with
  | some k => some k
  | none => parseNumber cs

/-- `mono` or `stereo` (R107). -/
def parseChannels (cs : List Char) : Option Bool :=
  if cs = "mono".toList then some false
  else if cs = "stereo".toList then some true
  else none

/-- The line with the given mnemonic and operands (R107, R108). -/
def parseCommand (name : List Char) (ops : List (List Char)) : Option AsmLine :=
  match ops with
  | [] =>
    if name = "nop".toList then some .nop
    else if name = "fend".toList then some .fend
    else if name = "clrside".toList then some .clrside
    else if name = "rdsize".toList then some .rdsize
    else if name = "rddrain".toList then some .rddrain
    else if name = "rdstatus".toList then some .rdstatus
    else if name = "rdmdb".toList then some .rdmdb
    else none
  | [a] =>
    if name = "fbegin".toList then do some (.fbegin (← parseNumber a))
    else if name = "maxbits".toList then do some (.maxbits (← parsePe a))
    else if name = "adjust".toList then do some (.adjust (← parseNumber a))
    else if name = "rdreg".toList then do some (.rdreg (← parseSelector a))
    else if name = "word".toList then do some (.word (← parseNumber a))
    else if name = "newframe".toList then do some (.newframe (← parseNumber a))
    else none
  | [a, b] =>
    if name = "wrcfg".toList then do some (.wrcfg (← parseNumber a) (← parseChannels b))
    else if name = "rdrec".toList then do some (.rdrec (← parseNumber a) (← parseNumber b))
    else if name = "granule".toList then do some (.granule (← parsePe a) (← parseNumber b))
    else none
  | [a, b, c] =>
    if name = "wrrec".toList then do some (.wrrec (← parseNumber a) (← parseNumber b) (← parseNumber c))
    else none
  | _ => none

/-- One line of text without its line end: `;` starts a comment, the mnemonic is the first word, commas part the
operands (R107). `some []` is a line with no command. -/
def assembleLine (line : List Char) : Option (List Command) :=
  let text := trimBlanks (line.takeWhile (· != ';'))
  let name := text.takeWhile (fun c => !isBlank c)
  let rest := trimBlanks (text.dropWhile (fun c => !isBlank c))
  if text = [] then some []
  else do
    let l ← parseCommand name (if rest = [] then [] else (splitChar ',' rest).map trimBlanks)
    l.assemble

/-- A whole text: the commands of its lines in order, or none if a line is refused (R107). -/
def assemble (text : String) : Option (List Command) := do
  let lines ← (splitChar '\n' text.toList).mapM assembleLine
  some lines.flatten

end Sys2Proof.Machine
end

