-- ==== Sys2Proof/Machine/System.lean ====
section
/-! DEFINITION. A system of NINST independent instances, one per stream (20_memory.md R83, 60_exceptions.md R232): each
has its own copy of every register and its own ports. -/

namespace Sys2Proof.Machine

/-- The instances of a chip, by position; an instance has no identifier register (R232). -/
structure System where
  blocks : List State
  deriving DecidableEq, Repr

/-- What a step of one block leaves; the block never stops (R220), so the other cases do not arise. -/
def stepOf (s : State) : State :=
  match step s with
  | .next t => t
  | .fault _ => s
  | .refused _ => s

/-- Instance `k` takes a step at its own ports (R83; log 15). -/
def System.stepAt (y : System) (k : Nat) : System := { blocks := y.blocks.modify k stepOf }

/-- Every instance at its own reset (R232). -/
def System.reset : System := { blocks := List.replicate Config.ninst State.reset }

end Sys2Proof.Machine
end

