-- ==== Sys2Proof/Safety.lean ====
section
/-! DEFINITION. The terms in which claims about the block are stated: the fault record of a run (60_exceptions.md
R226), a closed frame (70_reset_and_hazards.md R265), the source's call order (10_state.md R44), and the invariant of
the registers (10_state.md R47). -/

namespace Sys2Proof.Machine

/-- STATUS[4:0] = 0: no event was recorded, so the accounting is the source's (R226). -/
def State.clean (s : State) : Bool :=
  !(s.status.seqErr || s.status.illegal || s.status.peInvalid || s.status.sat || s.status.cfgErr)

/-- The last frame was closed by FEND, or none was opened: PHASE = AWAIT_FRAME (R265). -/
def State.frameClosed (s : State) : Bool := decide (s.phase = .awaitFrame)

/-- The four source operations keep the call cycle (R44, R221); every other command is in order in any phase. -/
def inOrder (i : Instr) (s : State) : Prop :=
  match i with
  | .fbegin _ => s.phase = .awaitFrame
  | .maxbits _ => s.phase = .awaitGranule ∧ s.slot.toNat < 2 * s.nch
  | .adjust _ => s.phase = .awaitAdjust
  | .fend => s.phase = .awaitGranule ∧ s.slot.toNat = 2 * s.nch
  | .nop | .wrcfg _ _ | .wrrec _ _ _ | .rdrec _ _ | .rdreg _ | .clrside => True

/-- What holds of the registers after reset and after every step. -/
structure State.Inv (s : State) : Prop where
  /-- MAX is 0 to 4088 (R35, R47). -/
  maxLegal : s.max.toNat ≤ 4088
  /-- DRAIN is below 2^31 (R39). -/
  drainLegal : s.drain.toNat < 2147483648
  /-- STUFF is at least -7 (R41, R175). -/
  stuffLegal : -7 ≤ s.stuff.toInt
  /-- RESULT lies between its least possible value and 4095 (R146). -/
  resultLegal : -1288490188 ≤ s.result.toInt ∧ s.result.toInt ≤ 4095
  /-- LAST_PLAN is NONE exactly when the last FEND had no stuffing to place (R43). -/
  planMatches : s.status.lastPlan = .none ↔ s.stuff.toInt ≤ 0
  /-- Between frames the reservoir is byte-aligned and at most its ceiling (R47, R174). -/
  settledBetweenFrames : s.phase = .awaitFrame → s.size.toInt ≤ s.max.toNat ∧ s.size.toInt.tmod 8 = 0

/-- While the host keeps the call order (SEQ_ERR = 0): how far SIZE can have risen by each phase of a frame, and how
far SLOT has counted (R165: at most 65535 per ADJUST above what FEND leaves). -/
def State.OrderedBound (s : State) : Prop :=
  s.status.seqErr = false →
    match s.phase with
    | .awaitFrame => s.size.toInt ≤ 4088
    | .awaitGranule => s.slot.toNat ≤ 4 ∧ s.size.toInt ≤ 4088 + 65535 * s.slot.toNat
    | .awaitAdjust => s.slot.toNat ≤ 3 ∧ s.size.toInt ≤ 4088 + 65535 * s.slot.toNat

/-- A response may be offered at cycle `now` for a command accepted at cycle `accepted`: no sooner than `LATENCY`
cycles later (30_encoding.md R90). The machine itself is untimed and reads no cycle (R264; log 2). -/
def mayOffer (accepted now : Nat) : Prop := accepted + Config.latency ≤ now

/-- A magnitude, in units of 2^-1074, that some binary64 with unbounded exponent has: 53 bits and a power of two. -/
def Representable (mag : Nat) : Prop := ∃ q e : Nat, q < 2 ^ 53 ∧ mag = q * 2 ^ e

/-- SIZE after step 1 of FEND, as an integer: a reading of 43_frame_end.md R171 that uses no operation of the model. -/
def State.parityAdjusted (s : State) : Int :=
  if s.stereo = true ∧ s.mean.toNat % 2 = 1 then min (s.size.toInt + 1) 2147483647 else s.size.toInt

/-- The stuffing count after step 3 of FEND, as an integer: a reading of R172 and R173 that uses no operation of the
model. -/
def State.stuffingCount (s : State) : Int :=
  let above : Int := if 0 < s.parityAdjusted - s.max.toNat then s.parityAdjusted - s.max.toNat else 0
  above + (s.parityAdjusted - above).tmod 8

end Sys2Proof.Machine
end

