-- ==== Sys2Proof/Certificates/Slice0/Obligations.lean ====
section
/-! DEFINITION. The statements for the provers. Each docstring names the rule of spec/ it formalises. In a conclusion
`exec i s = .next { s with … }` the fields named are all that the command writes: that equation is the command's effect,
its completion and its frame at once. The block has no memory (20_memory.md R70), so no frame speaks of memory. -/

open Sys2Proof Sys2Proof.Machine

/-! ## Encoding and decoding -/

/-- R92, R94, R101: decoding an encoded command gives it back, whatever its operands. -/
def Obligations.DecodeOfEncode : Prop :=
  ∀ i : Instr, i.wellFormed = true → decode (encode i).1 (encode i).2 = .ok i

/-- R92, R104: each legal word has one meaning: the command read from a word encodes to that word, bit for bit, it is
well formed, and only MAXBITS keeps the operand. -/
def Obligations.EncodeOfDecode : Prop :=
  ∀ (cw : Word) (opnd : Opnd) (i : Instr), decode cw opnd = .ok i →
    (encode i).1 = cw ∧ i.wellFormed = true ∧ (i.opcode = .maxbits → i = .maxbits opnd)

/-- R102: a word that the rule's `legal` accepts for the current CFG.STEREO is executed as the command its opcode
names; any other word does exactly what R104 says. OPND, PHASE and SLOT have no part in it. -/
def Obligations.AcceptFollowsLegality : Prop :=
  ∀ (cw : Word) (opnd : Opnd) (s : State),
    (legal cw s.stereo = true →
      ∃ i, decode cw opnd = .ok i ∧ i.inRange s.stereo = true ∧ i.opcode.bits = field cw 28 4 ∧
        accept { cw := cw, opnd := opnd } s = exec i s) ∧
    (legal cw s.stereo = false →
      accept { cw := cw, opnd := opnd } s =
        .next { s with status := { s.status with illegal := true }, rsp := some 0 })

/-- R109: the spec's encoding examples, read by the decoder. -/
def Obligations.DecodesTheSpecsExamples : Prop :=
  decode 0x100003E8 0 = .ok (.fbegin 1000) ∧
  decode 0x300001F4 0 = .ok (.adjust 500) ∧
  decode 0x500103E8 0 = .ok (.wrcfg 1000 true) ∧
  decode 0x60002FFA 0 = .ok (.wrrec .g1 .c0 4090) ∧
  decode 0x70003000 0 = .ok (.rdrec .g1 .c1) ∧
  decode 0x80000008 0 = .ok (.rdreg 8) ∧
  decode 0x20000000 0x407F400000000000 = .ok (.maxbits 0x407F400000000000) ∧
  assemble "fbegin 1000" = some [{ cw := 0x100003E8, opnd := 0 }] ∧
  assemble "adjust 500" = some [{ cw := 0x300001F4, opnd := 0 }] ∧
  assemble "wrcfg 1000, stereo" = some [{ cw := 0x500103E8, opnd := 0 }] ∧
  assemble "wrrec 1, 0, 4090" = some [{ cw := 0x60002FFA, opnd := 0 }] ∧
  assemble "rdrec 1, 1" = some [{ cw := 0x70003000, opnd := 0 }] ∧
  assemble "rdreg mdb" = some [{ cw := 0x80000008, opnd := 0 }] ∧
  assemble "maxbits 500.0" = some [{ cw := 0x20000000, opnd := 0x407F400000000000 }]

/-- R108: each pseudo-instruction is its expansion. -/
def Obligations.PseudoInstructionsExpand : Prop :=
  (∀ pe used, (AsmLine.granule pe used).assemble =
    (AsmLine.maxbits pe).assemble.bind fun a => (AsmLine.adjust used).assemble.map fun b => a ++ b) ∧
  (∀ len, (AsmLine.newframe len).assemble =
    AsmLine.clrside.assemble.bind fun a => (AsmLine.fbegin len).assemble.map fun b => a ++ b) ∧
  AsmLine.rdsize.assemble = (AsmLine.rdreg 0).assemble ∧
  AsmLine.rddrain.assemble = (AsmLine.rdreg 2).assemble ∧
  AsmLine.rdstatus.assemble = (AsmLine.rdreg 3).assemble ∧
  AsmLine.rdmdb.assemble = (AsmLine.rdreg 8).assemble

/-- R107: "An assembler refuses an operand that does not fit its field; it never truncates": a line with numbers is
refused exactly when one does not fit, and else the numbers stand unchanged in the word. -/
def Obligations.AssemblerNeverTruncates : Prop :=
  (∀ len, (AsmLine.fbegin len).assemble =
    if len < 65536 then some [{ cw := BitVec.ofNat 32 (0x10000000 + len), opnd := 0 }] else none) ∧
  (∀ used, (AsmLine.adjust used).assemble =
    if used < 4096 then some [{ cw := BitVec.ofNat 32 (0x30000000 + used), opnd := 0 }] else none) ∧
  (∀ mean (stereo : Bool), (AsmLine.wrcfg mean stereo).assemble =
    if mean < 65536 then
      some [{ cw := BitVec.ofNat 32 (0x50000000 + 65536 * stereo.toNat + mean), opnd := 0 }] else none) ∧
  (∀ gr ch val, (AsmLine.wrrec gr ch val).assemble =
    if gr < 2 ∧ ch < 2 ∧ val < 4096 then
      some [{ cw := BitVec.ofNat 32 (0x60000000 + 8192 * gr + 4096 * ch + val), opnd := 0 }] else none) ∧
  (∀ gr ch, (AsmLine.rdrec gr ch).assemble =
    if gr < 2 ∧ ch < 2 then
      some [{ cw := BitVec.ofNat 32 (0x70000000 + 8192 * gr + 4096 * ch), opnd := 0 }] else none) ∧
  (∀ sel, (AsmLine.rdreg sel).assemble =
    if sel ≤ 8 then some [{ cw := BitVec.ofNat 32 (0x80000000 + sel), opnd := 0 }] else none) ∧
  (∀ w, (AsmLine.word w).assemble =
    if w < 4294967296 then some [{ cw := BitVec.ofNat 32 w, opnd := 0 }] else none)

/-! ## Ports, steps, runs -/

/-- R90: a command that the host offers while no response waits is accepted at that edge and runs. The step does
nothing else but take the edge off the host's list (the model's own field, log 1). -/
def Obligations.StepRunsTheOfferedCommand : Prop :=
  ∀ (s : State) (p : Pins) (rest : List Pins) (i : Instr),
    s.inputs = p :: rest → p.rst = false → s.rsp = none → p.cmdValid = true →
    decode p.cmd.cw p.cmd.opnd = .ok i → step s = exec i { s with inputs := rest }

/-- R69: an edge with `rst = 1` gives every register its reset value, whatever the state was, and the state a run
starts from has the same values; what the host drives next is kept (log 5). -/
def Obligations.ResetEdgeGivesResetValues : Prop :=
  (∀ (s : State) (p : Pins) (rest : List Pins), s.inputs = p :: rest → p.rst = true →
    ∃ t, step s = .next t ∧ t.inputs = rest ∧ { t with inputs := [] } = State.reset) ∧
  State.reset =
    { size := 0, max := 0, mean := 0, stereo := false, gur := { r00 := 0, r01 := 0, r10 := 0, r11 := 0 },
      drain := 0, result := 0, stuff := 0,
      status := { seqErr := false, illegal := false, peInvalid := false, sat := false, cfgErr := false,
                  lastPlan := .none },
      phase := .awaitFrame, slot := 0, rsp := none, inputs := [] }

/-- R90: while a response is offered it is held until an edge with `rsp_ready = 1`, and no command is accepted, not
even at the edge that takes the response. -/
def Obligations.ResponseHeldUntilTaken : Prop :=
  ∀ (s : State) (p : Pins) (rest : List Pins) (w : Word),
    s.inputs = p :: rest → p.rst = false → s.rsp = some w →
    s.cmdReady p.rst = false ∧ s.rspValid p.rst = true ∧
    step s = .next { s with inputs := rest, rsp := if p.rspReady = true then none else some w }

/-- R74, R234: an edge that offers no command, with no response waiting, changes no register, nor does a step for
which the host drives nothing (log 3). -/
def Obligations.IdleEdgeChangesNothing : Prop :=
  (∀ (s : State) (p : Pins) (rest : List Pins),
    s.inputs = p :: rest → p.rst = false → s.rsp = none → p.cmdValid = false →
    s.cmdReady p.rst = true ∧ step s = .next { s with inputs := rest }) ∧
  (∀ s : State, s.inputs = [] → step s = .next s)

/-- R220: whatever the host sends, in whatever state, no run of commands stops, and each command leaves a response. -/
def Obligations.SessionNeverStops : Prop :=
  (∀ (c : Command) (s : State), ∃ (t : State) (w : Word), accept c s = .next t ∧ t.rsp = some w) ∧
  (∀ (cs : List Command) (s : State), ∃ t, s.runSession cs = .next t ∧ (cs ≠ [] → t.rsp = none))

/-- R90, R265: the machine at its ports refines the run of commands: a host that offers each command and then takes its
response gets, in two steps a command, exactly the state of `runSession`. Two choices of the model, no rule of the spec,
stand in it: the host's coming edges are a list in State (log 1), and a response is offered right after its acceptance,
the LATENCY >= 1 cycles of R90 being no steps (log 2). -/
def Obligations.PortsRefineSession : Prop :=
  ∀ (cs : List Command) (s t : State) (rest : List Pins), s.rsp = none → s.runSession cs = .next t →
    Host.Core.run Sys2Proof.core (2 * cs.length)
        ({ s with inputs := (cs.flatMap fun c => [Pins.offer c, Pins.take]) ++ rest } : State) =
      .next ({ t with inputs := rest } : State)

/-! ## Events and the whole machine -/

/-- R103: the response word of every command: MAXBITS its RESULT, RDREC the record, RDREG the image, every other
command 0, and every illegal command 0. -/
def Obligations.ResponseWords : Prop :=
  (∀ (i : Instr) (s : State), i.wellFormed = true → i.inRange s.stereo = true →
    ∃ t, exec i s = .next t ∧
      match i with
      | .maxbits _ => t.rsp = some t.result
      | .rdrec gr ch => t.rsp = some (BitVec.ofNat 32 (s.gur.get gr ch).toNat)
      | .rdreg sel => t.rsp = s.image sel ∧ (s.image sel).isSome = true
      | .nop | .fbegin _ | .adjust _ | .fend | .wrcfg _ _ | .wrrec _ _ _ | .clrside => t.rsp = some 0) ∧
  (∀ (c : Command) (s : State), legal c.cw s.stereo = false →
    ∃ t, accept c s = .next t ∧ t.rsp = some 0)

/-- R221, R223: a legal command sets each flag but ILLEGAL exactly on that flag's cause, and clears none; an illegal word
sets ILLEGAL and no other flag. -/
def Obligations.EventsHaveExactlyTheirCauses : Prop :=
  (∀ (i : Instr) (s : State), i.wellFormed = true → i.inRange s.stereo = true →
    ∃ t, exec i s = .next t ∧
      (t.status.seqErr = true ↔ s.status.seqErr = true ∨ ¬ inOrder i s) ∧
      t.status.illegal = s.status.illegal ∧
      (t.status.peInvalid = true ↔ s.status.peInvalid = true ∨
        ∃ pe, i = .maxbits pe ∧ ((f64 pe).isNaN = true ∨ (f64 pe).isInf = true ∨ (f64 pe).isNeg = true)) ∧
      (t.status.sat = true ↔ s.status.sat = true ∨
        (∃ used, i = .adjust used ∧
          (s.size.toInt + s.share - uint used < -2147483648 ∨ 2147483647 < s.size.toInt + s.share - uint used)) ∨
        (i = .fend ∧ s.stereo = true ∧ s.mean.toNat % 2 = 1 ∧ s.size.toInt = 2147483647)) ∧
      (t.status.cfgErr = true ↔ s.status.cfgErr = true ∨
        ∃ mean stereo, i = .wrcfg mean stereo ∧ s.phase ≠ .awaitFrame)) ∧
  (∀ (c : Command) (s : State), legal c.cw s.stereo = false →
    ∃ t, accept c s = .next t ∧ t.status = { s.status with illegal := true })

/-- R142, in the bits of the operand: MAXBITS sets PE_INVALID when the operand's exponent field is all ones (NaN,
infinities), or when its sign bit is 1 and the rest is not 0; negative zero is valid. -/
def Obligations.InvalidEntropyInBits : Prop :=
  ∀ (pe : Opnd) (s : State), ∃ t, exec (.maxbits pe) s = .next t ∧
    (t.status.peInvalid = true ↔ s.status.peInvalid = true ∨
      (pe.toNat / 2 ^ 52) % 2 ^ 11 = 2047 ∨ (2 ^ 63 ≤ pe.toNat ∧ pe.toNat ≠ 2 ^ 63))

/-- R225: the sticky flags are cleared only by reset: after any step without `rst`, each flag that was set is set. -/
def Obligations.OnlyResetClearsFlags : Prop :=
  ∀ (s t : State) (f : StatusFlag), (∀ p rest, s.inputs = p :: rest → p.rst = false) → step s = .next t →
    s.status.get f = true → t.status.get f = true

/-- R226: STATUS[4:0] = 0 at the end of a stream means that no command of it recorded an event: it was 0 all along. -/
def Obligations.CleanEndMeansCleanThroughout : Prop :=
  ∀ (before after : List Command) (s t u : State), s.runSession before = .next t → t.runSession after = .next u →
    u.clean = true → t.clean = true

/-- R47, R35, R39, R41, R43, R146, R174: what holds of the registers holds after every step, from every state in
which it holds. -/
def Obligations.StepKeepsInvariant : Prop :=
  ∀ s t : State, s.Inv → step s = .next t → t.Inv

/-- The invariant holds after reset. -/
def Obligations.ResetHasInvariant : Prop := State.reset.Inv

/-- R165: while the host keeps the call order, SIZE never rises above 4088 + 65535 * SLOT in a frame and is at most
4088 between frames: every step keeps the bound. -/
def Obligations.StepKeepsOrderedBound : Prop :=
  ∀ s t : State, s.Inv → s.OrderedBound → step s = .next t → t.OrderedBound

/-- R165: the bound holds after reset, and wherever it holds without SEQ_ERR, SIZE is at most 266228, so that no ADJUST
reaches the top of the 32-bit range. -/
def Obligations.OrderedBoundExcludesTopSaturation : Prop :=
  State.reset.OrderedBound ∧
  ∀ s : State, s.OrderedBound → s.status.seqErr = false →
    s.size.toInt ≤ 266228 ∧ ∀ used : BitVec 12, s.size.toInt + s.share - uint used ≤ 2147483647

/-- R33, R35, R36, R37, R38, R39, R40, R41, R43, R44, R45: each register is written only by the commands its rule names. -/
def Obligations.RegistersHaveOnlyTheirWriters : Prop :=
  ∀ (i : Instr) (s : State), ∃ t, exec i s = .next t ∧
    (i.opcode ≠ .adjust → i.opcode ≠ .fend → t.size = s.size) ∧
    (i.opcode ≠ .fbegin → t.max = s.max) ∧
    (i.opcode ≠ .wrcfg → t.mean = s.mean ∧ t.stereo = s.stereo) ∧
    (i.opcode ≠ .wrrec → i.opcode ≠ .clrside → i.opcode ≠ .fend → t.gur = s.gur) ∧
    (i.opcode ≠ .clrside → i.opcode ≠ .fend → t.drain = s.drain) ∧
    (i.opcode ≠ .maxbits → t.result = s.result) ∧
    (i.opcode ≠ .fend → t.stuff = s.stuff ∧ t.status.lastPlan = s.status.lastPlan) ∧
    (i.opcode ≠ .fbegin → i.opcode ≠ .maxbits → i.opcode ≠ .adjust → i.opcode ≠ .fend → t.phase = s.phase) ∧
    (i.opcode ≠ .fbegin → i.opcode ≠ .adjust → t.slot = s.slot) ∧
    t.inputs = s.inputs

/-! ## FBEGIN -/

/-- R130, R131, R133: the word of FBEGIN, and FBEGIN from any state, in order or not. -/
def Obligations.FbeginEffect : Prop :=
  ∀ (len : BitVec 16) (s : State), (∀ opnd, decode (0x1000#16 ++ len) opnd = .ok (.fbegin len)) ∧ ∃ m : BitVec 13,
    exec (.fbegin len) s =
      .next { s with
        max := m, phase := .awaitGranule, slot := 0, rsp := some 0,
        status := { s.status with seqErr := s.status.seqErr || decide (s.phase ≠ .awaitFrame) } } ∧
    m.toNat = if len.toNat ≤ 7680 then min (7680 - len.toNat) 4088 else 0

/-! ## MAXBITS -/

/-- R140, R147: the word of MAXBITS, and MAXBITS from any state, in order or not, with any operand: the pseudocode's
steps 1 to 7. (`moreBits` is R143's MOREBITS, the subject of `MoreBitsFormula`.) -/
def Obligations.MaxbitsEffect : Prop :=
  ∀ (pe : Opnd) (s : State), decode 0x20000000 pe = .ok (.maxbits pe) ∧ ∃ r : BitVec 32,
    exec (.maxbits pe) s =
      .next { s with
        result := r, phase := .awaitAdjust, rsp := some r,
        status := { s.status with
          seqErr := s.status.seqErr ||
            !(decide (s.phase = .awaitGranule) && decide (s.slot.toNat < 2 * (1 + s.stereo.toNat))),
          peInvalid := s.status.peInvalid || ((f64 pe).isNaN || (f64 pe).isInf || (f64 pe).isNeg) } } ∧
    let share : Int := (s.mean.toNat / (1 + s.stereo.toNat) : Nat)
    let more := moreBits (f64 pe) share
    let grant : Int := if more > 100 then min ((s.size.toInt * 6).tdiv 10) more else 0
    let above : Int := s.size.toInt - ((s.max.toNat * 8 / 10 : Nat) : Int) - grant
    let extra : Int := if above > 0 then grant + above else grant
    r.toInt = if s.max = 0 then min share 4095 else min (min share 4095 + extra) 4095

/-- R146, R149: the budget is at most 4095 and at least -1288490188, and it is at least 0 whenever SIZE is. -/
def Obligations.MaxbitsResultRange : Prop :=
  ∀ (pe : Opnd) (s : State), ∃ t, exec (.maxbits pe) s = .next t ∧
    t.result.toInt ≤ 4095 ∧ -1288490188 ≤ t.result.toInt ∧ (0 ≤ s.size.toInt → 0 ≤ t.result.toInt)

/-- R146: the budget is negative in exactly the case the rule names. -/
def Obligations.MaxbitsNegativeExactlyWhen : Prop :=
  ∀ (pe : Opnd) (s : State), ∃ t, exec (.maxbits pe) s = .next t ∧
    (t.result.toInt < 0 ↔
      s.size.toInt < 0 ∧ s.max ≠ 0 ∧ 100 < moreBits (f64 pe) s.share ∧
        (s.size.toInt * 6).tdiv 10 < -(min s.share 4095))

/-- R145: with MAX = 0 the budget is the share, at most 4095, whatever PE and SIZE are; PE_INVALID is still set. -/
def Obligations.MaxbitsWithoutReservoir : Prop :=
  ∀ (pe : Opnd) (s : State), s.max = 0 → ∃ t, exec (.maxbits pe) s = .next t ∧
    t.result.toInt = min ((s.mean.toNat / (1 + s.stereo.toNat) : Nat) : Int) 4095 ∧
    (peInvalid (f64 pe) = true → t.status.peInvalid = true)

/-- R143: step 4 as the rule writes it: 0 for a NaN; else the product and the difference in binary64, never a NaN
themselves, truncated and limited to 2^40 either way. The share converts exactly. -/
def Obligations.MoreBitsFormula : Prop :=
  ∀ (pe : F64) (share : Int), 0 ≤ share → share ≤ 65535 →
    toF64 share = .fin false (share.toNat * F64.one) ∧
    (pe.isNaN = true → moreBits pe share = 0) ∧
    (pe.isNaN = false →
      ∃ t, sub64 (mul64 pe (f64 0x4008CCCCCCCCCCCD#64)) (toF64 share) = t ∧ t.isNaN = false ∧
        (t = .inf false → moreBits pe share = 2 ^ 40) ∧
        (t = .inf true → moreBits pe share = -2 ^ 40) ∧
        ∀ neg mag, t = .fin neg mag →
          moreBits pe share =
            max (-2 ^ 40) (min (if neg then -((mag / F64.one : Nat) : Int) else ((mag / F64.one : Nat) : Int)) (2 ^ 40)))

/-- R144: the comparison with 100 is made after truncation: a demand above 100 and below 101 grants nothing in step 5,
as the rule's example shows. -/
def Obligations.GrantComparesAfterTruncation : Prop :=
  (∀ (mag : Nat) (size : Int), 100 * F64.one < mag → mag < 101 * F64.one →
    truncLimited (.fin false mag) = 100 ∧ grantedBits size (truncLimited (.fin false mag)) = 0) ∧
  moreBits (f64 0x4068318C7E28240B) 500 = 100

/-- R143: the limits of 2^40 change no budget: the exact truncation gives the same value. -/
def Obligations.LimitsChangeNoBudget : Prop :=
  ∀ (share size max more : Int), -2147483648 ≤ size → size ≤ 2147483647 →
    budget share size max (clamp40 more) = budget share size max more

/-- R16: the rounding is to nearest, ties to even: the result has 53 bits, no number of 53 bits is nearer to
`num / den`, and of two equally near it is the one with the even last digit. -/
def Obligations.RoundingIsToNearestEven : Prop :=
  ∀ num den : Nat, 0 < den →
    Representable (roundNearest num den) ∧
    (∀ n, Representable n →
      ((roundNearest num den * den : Int) - num).natAbs ≤ ((n * den : Int) - num).natAbs) ∧
    (∀ n, Representable n → n ≠ roundNearest num den →
      ((roundNearest num den * den : Int) - num).natAbs = ((n * den : Int) - num).natAbs →
      ∃ q e : Nat, q % 2 = 0 ∧ q ≤ 2 ^ 53 ∧ roundNearest num den = q * 2 ^ e ∧
        (n = (q + 1) * 2 ^ e ∨ n = (q - 1) * 2 ^ e))

/-- R16: integers below 2^53 convert to binary64 exactly. -/
def Obligations.IntegersConvertExactly : Prop :=
  ∀ n : Int, n.natAbs < 2 ^ 53 → toF64 n = .fin (decide (n < 0)) (n.natAbs * F64.one)

/-- R94: no bit of an operand that is a number or an infinity is lost: its value determines its 64 bits. -/
def Obligations.EntropyBitsAreKept : Prop :=
  ∀ pe : Opnd, (f64 pe).isNaN = false → (f64 pe).toBits = pe

/-! ## ADJUST -/

/-- R160, R161, R162, R163: the word of ADJUST, and ADJUST from any state, in order or not: the exact sum, saturated at the 32-bit bounds and
never at zero. -/
def Obligations.AdjustEffect : Prop :=
  ∀ (used : BitVec 12) (s : State), (∀ opnd, decode (0x30000#20 ++ used) opnd = .ok (.adjust used)) ∧
    ∃ (z : BitVec 32) (k : BitVec 3),
    let sum : Int := s.size.toInt + ((s.mean.toNat / (1 + s.stereo.toNat) : Nat) : Int) - used.toNat
    exec (.adjust used) s =
      .next { s with
        size := z, slot := k, phase := .awaitGranule, rsp := some 0,
        status := { s.status with
          seqErr := s.status.seqErr || decide (s.phase ≠ .awaitAdjust),
          sat := s.status.sat || decide (sum < -2 ^ 31 ∨ 2 ^ 31 - 1 < sum) } } ∧
    z.toInt = (if sum < -2 ^ 31 then -2 ^ 31 else if 2 ^ 31 - 1 < sum then 2 ^ 31 - 1 else sum) ∧
    k.toNat = if s.slot.toNat = 7 then 7 else s.slot.toNat + 1

/-! ## FEND -/

/-- R171, R172, R173, R179 (R170): FEND from any state, in order or not: what it leaves in every register but the records, DRAIN
and LAST_PLAN. -/
def Obligations.FendSettlesTheReservoir : Prop :=
  ∀ s : State, ∃ t, exec .fend s = .next t ∧
    t.size.toInt = s.parityAdjusted - s.stuffingCount ∧ t.stuff.toInt = s.stuffingCount ∧
    t.phase = .awaitFrame ∧ t.rsp = some 0 ∧
    t.status.seqErr =
      (s.status.seqErr || !(decide (s.phase = .awaitGranule) && decide (s.slot.toNat = 2 * (1 + s.stereo.toNat)))) ∧
    t.status.sat =
      (s.status.sat || (s.stereo && decide (s.mean.toNat % 2 = 1) && decide (s.size.toInt = 2147483647))) ∧
    t.status.illegal = s.status.illegal ∧ t.status.peInvalid = s.status.peInvalid ∧
    t.status.cfgErr = s.status.cfgErr ∧
    t.max = s.max ∧ t.mean = s.mean ∧ t.stereo = s.stereo ∧ t.result = s.result ∧ t.slot = s.slot ∧
    t.inputs = s.inputs

/-- R174: what FEND guarantees of SIZE, whatever SIZE was before. -/
def Obligations.FendGuaranteesSize : Prop :=
  ∀ s : State, ∃ t, exec .fend s = .next t ∧
    t.size.toInt ≤ t.max.toNat ∧ t.size.toInt.tmod 8 = 0 ∧
    (0 ≤ s.parityAdjusted → 0 ≤ t.size.toInt ∧
      (0 < s.parityAdjusted - s.max.toNat → (s.max.toNat : Int) - 7 ≤ t.size.toInt)) ∧
    (s.parityAdjusted < 0 → t.size.toInt ≤ 0 ∧
      t.size.toInt = s.parityAdjusted - s.parityAdjusted.tmod 8 ∧ t.size.toInt ≤ s.parityAdjusted + 7)

/-- R175: FEND writes the count to STUFF; it is -7 to 2^31 - 1; a count of 0 or less places nothing. -/
def Obligations.FendPlacesNothing : Prop :=
  ∀ s : State, -7 ≤ s.stuffingCount ∧ s.stuffingCount ≤ 2 ^ 31 - 1 ∧
    (∃ t, exec .fend s = .next t ∧ t.stuff.toInt = s.stuffingCount) ∧
    (s.stuffingCount ≤ 0 → ∃ t, exec .fend s = .next t ∧
      t.gur = s.gur ∧ t.drain = s.drain ∧ t.status.lastPlan = .none)

/-- R176: Plan A, when `GUR[0][0] + stuff < 4095`. -/
def Obligations.FendPlanA : Prop :=
  ∀ s : State, 0 < s.stuffingCount → (s.gur.r00.toNat : Int) + s.stuffingCount < 4095 →
    ∃ t, exec .fend s = .next t ∧
      (t.gur.r00.toNat : Int) = s.gur.r00.toNat + s.stuffingCount ∧ t.gur.r00.toNat ≤ 4094 ∧
      t.gur.r01 = s.gur.r01 ∧ t.gur.r10 = s.gur.r10 ∧ t.gur.r11 = s.gur.r11 ∧
      t.drain = s.drain ∧ t.status.lastPlan = .planA

/-- R177, R178: Plan B, when Plan A's test fails: each slot in turn takes what its room allows of what remains, and the
rest goes to DRAIN; with one channel the channel-1 records are not touched. (Subtraction of Nat stops at 0.) -/
def Obligations.FendPlanB : Prop :=
  ∀ s : State, 0 < s.stuffingCount → 4095 ≤ (s.gur.r00.toNat : Int) + s.stuffingCount →
    let stuff := s.stuffingCount.toNat
    let room00 := 4095 - s.gur.r00.toNat
    let room01 := 4095 - s.gur.r01.toNat
    let room10 := 4095 - s.gur.r10.toNat
    let room11 := 4095 - s.gur.r11.toNat
    ∃ t, exec .fend s = .next t ∧ t.status.lastPlan = .planB ∧
      t.gur.r00.toNat = s.gur.r00.toNat + min room00 stuff ∧
      (s.stereo = true →
        t.gur.r01.toNat = s.gur.r01.toNat + min room01 (stuff - room00) ∧
        t.gur.r10.toNat = s.gur.r10.toNat + min room10 (stuff - room00 - room01) ∧
        t.gur.r11.toNat = s.gur.r11.toNat + min room11 (stuff - room00 - room01 - room10) ∧
        t.drain.toNat = stuff - room00 - room01 - room10 - room11) ∧
      (s.stereo = false →
        t.gur.r01 = s.gur.r01 ∧ t.gur.r11 = s.gur.r11 ∧
        t.gur.r10.toNat = s.gur.r10.toNat + min room10 (stuff - room00) ∧
        t.drain.toNat = stuff - room00 - room10)

/-- R178, "never fail, always degrade to a recorded residual": every stuffing bit lands in a record or, on the Plan B
path, in DRAIN; no record ever shrinks; off that path DRAIN keeps its value. -/
def Obligations.StuffingIsConserved : Prop :=
  ∀ s : State, ∃ t, exec .fend s = .next t ∧
    (∀ g c, (s.gur.get g c).toNat ≤ (t.gur.get g c).toNat) ∧
    (t.status.lastPlan ≠ .planB → t.drain = s.drain) ∧
    t.gur.r00.toNat + t.gur.r01.toNat + t.gur.r10.toNat + t.gur.r11.toNat +
        (if t.status.lastPlan = .planB then t.drain.toNat else 0) =
      s.gur.r00.toNat + s.gur.r01.toNat + s.gur.r10.toNat + s.gur.r11.toNat + (max 0 t.stuff.toInt).toNat

/-- R180: a FEND right after a FEND. Without the parity fix it changes only STUFF (0), LAST_PLAN (NONE) and SEQ_ERR.
With it, from SIZE at least 0, SIZE ends as it was and one bit is placed: on GUR[0][0] below 4094, else in the first
visited record below 4095, else in DRAIN. From a negative SIZE it places nothing and SIZE rises by 8. -/
def Obligations.RepeatedFend : Prop :=
  ∀ s : State, ∃ t u, exec .fend s = .next t ∧ exec .fend t = .next u ∧ u.status.seqErr = true ∧
    (¬ (s.stereo = true ∧ s.mean.toNat % 2 = 1) →
      u = { t with stuff := 0, status := { t.status with seqErr := true, lastPlan := .none } }) ∧
    (s.stereo = true → s.mean.toNat % 2 = 1 → 0 ≤ t.size.toInt →
      u.size = t.size ∧ u.stuff = 1 ∧
      (t.gur.r00.toNat < 4094 →
        u.gur = { t.gur with r00 := t.gur.r00 + 1 } ∧ u.drain = t.drain ∧ u.status.lastPlan = .planA) ∧
      (4094 ≤ t.gur.r00.toNat → u.status.lastPlan = .planB) ∧
      (t.gur.r00.toNat = 4094 → u.gur = { t.gur with r00 := 4095 } ∧ u.drain = 0) ∧
      (t.gur.r00 = 4095 → t.gur.r01 ≠ 4095 →
        u.gur = { t.gur with r01 := t.gur.r01 + 1 } ∧ u.drain = 0) ∧
      (t.gur.r00 = 4095 → t.gur.r01 = 4095 → t.gur.r10 ≠ 4095 →
        u.gur = { t.gur with r10 := t.gur.r10 + 1 } ∧ u.drain = 0) ∧
      (t.gur.r00 = 4095 → t.gur.r01 = 4095 → t.gur.r10 = 4095 → t.gur.r11 ≠ 4095 →
        u.gur = { t.gur with r11 := t.gur.r11 + 1 } ∧ u.drain = 0) ∧
      (t.gur.r00 = 4095 → t.gur.r01 = 4095 → t.gur.r10 = 4095 → t.gur.r11 = 4095 →
        u.gur = t.gur ∧ u.drain = 1)) ∧
    (s.stereo = true → s.mean.toNat % 2 = 1 → t.size.toInt < 0 →
      u.size.toInt = t.size.toInt + 8 ∧ u.stuff.toInt = -7 ∧ u.gur = t.gur ∧ u.drain = t.drain)

/-! ## Host access commands -/

/-- R190: the word of NOP, and NOP in any state: every register as it was, response 0; the word 1 is no NOP. -/
def Obligations.NopEffect : Prop :=
  ∀ (s : State) (opnd : Opnd), decode 0x00000000 opnd = .ok .nop ∧ exec .nop s = .next { s with rsp := some 0 } ∧
    decode 0x00000001 opnd = .error (.reservedBits "NOP")

/-- R192, R193: the word of WRCFG; WRCFG writes CFG in every phase; outside AWAIT_FRAME it also sets CFG_ERR. -/
def Obligations.WrcfgEffect : Prop :=
  ∀ (mean : BitVec 16) (stereo : Bool) (s : State),
    (∀ opnd, decode (0b010100000000000#15 ++ (BitVec.ofBool stereo ++ mean)) opnd = .ok (.wrcfg mean stereo)) ∧
    exec (.wrcfg mean stereo) s =
      .next { s with
        mean := mean, stereo := stereo, rsp := some 0,
        status := { s.status with cfgErr := s.status.cfgErr || decide (s.phase ≠ .awaitFrame) } }

/-- R194: the word of WRREC; in the configured table it writes the one record its index names; on channel 1 with one
channel it is illegal (R104): it sets ILLEGAL, responds 0 and does nothing else. -/
def Obligations.WrrecEffect : Prop :=
  ∀ (gr : Granule) (ch : Channel) (val : Record) (s : State),
    (∀ opnd, decode (0b011000000000000000#18 ++ (BitVec.ofBool gr.bit ++ (BitVec.ofBool ch.bit ++ val))) opnd =
      .ok (.wrrec gr ch val)) ∧
    (ch = .c0 ∨ s.stereo = true →
      ∃ f : RecordFile, exec (.wrrec gr ch val) s = .next { s with gur := f, rsp := some 0 } ∧
        f.get gr ch = val ∧ ∀ g c, (g, c) ≠ (gr, ch) → f.get g c = s.gur.get g c) ∧
    (ch = .c1 → s.stereo = false →
      exec (.wrrec gr ch val) s = .next { s with status := { s.status with illegal := true }, rsp := some 0 })

/-- R196: the word of RDREC; in the configured table it responds with the record, zero-extended, and changes no
register; on channel 1 with one channel it is illegal (R104). -/
def Obligations.RdrecEffect : Prop :=
  ∀ (gr : Granule) (ch : Channel) (s : State),
    (∀ opnd, decode (0b011100000000000000#18 ++ (BitVec.ofBool gr.bit ++ (BitVec.ofBool ch.bit ++ 0#12))) opnd =
      .ok (.rdrec gr ch)) ∧
    (ch = .c0 ∨ s.stereo = true →
      ∃ w : Word, exec (.rdrec gr ch) s = .next { s with rsp := some w } ∧ w.toNat = (s.gur.get gr ch).toNat) ∧
    (ch = .c1 → s.stereo = false →
      exec (.rdrec gr ch) s = .next { s with status := { s.status with illegal := true }, rsp := some 0 })

/-- From R198, R100, R104: the word of RDREG; RDREG responds with the register image of its selector and changes no
register. The images are given as numbers, field by field. A word with a selector 9 to 15 is rejected. No word decodes
to a term with such a selector; that `exec` of the term does what R104 says of the word is the model's choice (log 12). -/
def Obligations.RdregImages : Prop :=
  ∀ (sel : BitVec 4) (s : State),
    (∀ opnd, decode (0x8000000#28 ++ sel) opnd =
      if sel.toNat ≤ 8 then .ok (.rdreg sel) else .error (.reservedSelector sel)) ∧
    (8 < sel.toNat →
      exec (.rdreg sel) s = .next { s with status := { s.status with illegal := true }, rsp := some 0 }) ∧
    (sel.toNat ≤ 8 → ∃ w : Word, exec (.rdreg sel) s = .next { s with rsp := some w } ∧
      (sel = 0 → w.toInt = s.size.toInt) ∧
      (sel = 1 → w.toNat = s.max.toNat) ∧
      (sel = 2 → w = s.drain) ∧
      (sel = 3 → w.toNat = s.status.seqErr.toNat + 2 * s.status.illegal.toNat + 4 * s.status.peInvalid.toNat +
        8 * s.status.sat.toNat + 16 * s.status.cfgErr.toNat +
        256 * (match s.status.lastPlan with | .none => 0 | .planA => 1 | .planB => 2)) ∧
      (sel = 4 → w.toNat = s.mean.toNat + 65536 * s.stereo.toNat) ∧
      (sel = 5 → w.toNat = (match s.phase with | .awaitFrame => 0 | .awaitGranule => 1 | .awaitAdjust => 2) +
        16 * s.slot.toNat) ∧
      (sel = 6 → w.toInt = s.result.toInt) ∧
      (sel = 7 → w.toInt = s.stuff.toInt) ∧
      (sel = 8 → (w.toNat : Int) = (s.size.toInt / 8) % 512 +
        (if 0 ≤ s.size.toInt ∧ s.size.toInt ≤ 4088 ∧ s.size.toInt % 8 = 0 then 0 else 512)))

/-- R132, R263: between frames, with SIZE at least 0, the MDB expectation is SIZE div 8, in 0 to 511, and in range. -/
def Obligations.MdbBetweenFrames : Prop :=
  ∀ s : State, s.Inv → s.phase = .awaitFrame → 0 ≤ s.size.toInt →
    ∃ w : Word, exec (.rdreg 8) s = .next { s with rsp := some w } ∧
      (w.toNat : Int) = s.size.toInt.tdiv 8 ∧ w.toNat ≤ 511

/-- R74: RDREC and RDREG change no register, so two of them in a row return the same word. -/
def Obligations.ReadsRepeat : Prop :=
  ∀ (i : Instr) (s : State), (i.opcode = .rdrec ∨ i.opcode = .rdreg) → i.wellFormed = true →
    i.inRange s.stereo = true →
    ∃ t, exec i s = .next t ∧ { t with rsp := s.rsp } = s ∧ exec i t = .next t

/-- R200: the word of CLRSIDE; it zeroes every record, whatever CFG.STEREO is, and DRAIN. -/
def Obligations.ClrsideEffect : Prop :=
  ∀ s : State, (∀ opnd, decode 0x90000000 opnd = .ok .clrside) ∧ ∃ f : RecordFile,
    exec .clrside s = .next { s with gur := f, drain := 0, rsp := some 0 } ∧ ∀ g c, (f.get g c).toNat = 0

/-! ## Several instances -/

/-- R83: a step of one instance changes no state of another, and is that instance's own step; a chip has NINST >= 1
instances, each starting from its own reset (R232). -/
def Obligations.InstancesShareNothing : Prop :=
  (∀ (y : System) (k j : Nat), j ≠ k → (y.stepAt k).blocks[j]? = y.blocks[j]?) ∧
  (∀ (y : System) (k : Nat) (s t : State), y.blocks[k]? = some s → step s = .next t →
    (y.stepAt k).blocks[k]? = some t) ∧
  (∀ (y : System) (k : Nat), (y.stepAt k).blocks.length = y.blocks.length) ∧
  1 ≤ System.reset.blocks.length ∧ ∀ s ∈ System.reset.blocks, s = State.reset
end

