-- ==== Sys2Proof/Laws/PerInstr.lean ====
section
/-! SUPPORT. A statement made per command: the encoder puts the command's opcode in `CW[31:28]` and nothing else there
(30_encoding.md R91, R101). -/

namespace Sys2Proof.Laws.EncodedOpcode

/-- The opcode field of the encoded command selects that command. -/
def Statement (i : Instr) : Prop := Opcode.ofBits? (field (encode i).1 28 4) = some i.opcode

/-- The opcode field of a word put together from opcode bits and a payload. -/
theorem field_opcode (op : Opcode) (p : BitVec 28) : Opcode.ofBits? (field (op.bits ++ p) 28 4) = some op := by
  have h : field (op.bits ++ p) 28 4 = op.bits := by
    apply BitVec.eq_of_toNat_eq
    have hp := p.isLt
    have ho := op.bits.isLt
    simp only [field, BitVec.extractLsb'_toNat, BitVec.toNat_append, Nat.shiftLeft_eq, Nat.shiftRight_eq_div_pow]
    rw [Nat.mul_comm, ← Nat.two_pow_add_eq_or_of_lt hp]
    omega
  rw [h]; cases op <;> rfl

theorem nop : Statement .nop := field_opcode _ _
theorem fbegin (len : BitVec 16) : Statement (.fbegin len) := field_opcode _ _
theorem maxbits (pe : Opnd) : Statement (.maxbits pe) := field_opcode _ _
theorem adjust (used : BitVec 12) : Statement (.adjust used) := field_opcode _ _
theorem fend : Statement .fend := field_opcode _ _
theorem wrcfg (mean : BitVec 16) (stereo : Bool) : Statement (.wrcfg mean stereo) := field_opcode _ _
theorem wrrec (gr : Granule) (ch : Channel) (val : Record) : Statement (.wrrec gr ch val) := field_opcode _ _
theorem rdrec (gr : Granule) (ch : Channel) : Statement (.rdrec gr ch) := field_opcode _ _
theorem rdreg (sel : BitVec 4) : Statement (.rdreg sel) := field_opcode _ _
theorem clrside : Statement .clrside := field_opcode _ _

end Sys2Proof.Laws.EncodedOpcode
end

