-- ==== Sys2Proof/Laws/Encoding.lean ====
section
/-! SUPPORT. Fields, bits and encoded words as arithmetic on numbers, so that `omega` can close a goal about an
encoding (30_encoding.md R92). -/

namespace Sys2Proof

/-- A field as a number. -/
theorem field_toNat (cw : Word) (lo len : Nat) : (field cw lo len).toNat = cw.toNat / 2 ^ lo % 2 ^ len := by
  simp [field, BitVec.extractLsb'_toNat, Nat.shiftRight_eq_div_pow]

/-- A field is 0, as a number. -/
theorem field_eq_zero_iff (cw : Word) (lo len : Nat) :
    field cw lo len = 0#len ↔ cw.toNat / 2 ^ lo % 2 ^ len = 0 := by
  rw [← field_toNat, ← BitVec.toNat_inj]
  simp

/-- A field is 0 as the decoder tests it, as a number. -/
theorem field_beq_zero (cw : Word) (lo len : Nat) :
    (field cw lo len == 0) = decide (cw.toNat / 2 ^ lo % 2 ^ len = 0) := by
  rw [Bool.eq_iff_iff, beq_iff_eq, decide_eq_true_iff]
  exact field_eq_zero_iff cw lo len

/-- A bit as a number. -/
theorem getLsbD_eq_decide {w : Nat} (v : BitVec w) (k : Nat) : v.getLsbD k = decide (v.toNat / 2 ^ k % 2 = 1) := by
  simp [BitVec.getLsbD, Nat.testBit_eq_decide_div_mod_eq]

/-- Two fields put together, as a number. -/
theorem toNat_append' {a b : Nat} (x : BitVec a) (y : BitVec b) : (x ++ y).toNat = x.toNat * 2 ^ b + y.toNat := by
  rw [BitVec.toNat_append, Nat.shiftLeft_eq, Nat.mul_comm, ← Nat.two_pow_add_eq_or_of_lt y.isLt]

/-- The encoded word as a number: the opcode above 28 payload bits. -/
theorem encode_toNat (i : Instr) : (encode i).1.toNat = i.opcode.bits.toNat * 2 ^ 28 + i.payload.toNat :=
  toNat_append' _ _

/-- The payload of each command as a number: its operands at their places (R92). -/
theorem payload_toNat (i : Instr) : i.payload.toNat =
    match i with
    | .nop | .maxbits _ | .fend | .clrside => 0
    | .fbegin len => len.toNat
    | .adjust used => used.toNat
    | .wrcfg mean stereo => stereo.toNat * 65536 + mean.toNat
    | .wrrec gr ch val => gr.bit.toNat * 8192 + ch.bit.toNat * 4096 + val.toNat
    | .rdrec gr ch => gr.bit.toNat * 8192 + ch.bit.toNat * 4096
    | .rdreg sel => sel.toNat := by
  cases i <;> simp only [Instr.payload] <;> repeat rw [toNat_append']
  all_goals simp [BitVec.toNat_ofBool] <;> omega

theorem Granule.ofBit_bit (g : Granule) : Granule.ofBit g.bit = g := by cases g <;> rfl
theorem Channel.ofBit_bit (c : Channel) : Channel.ofBit c.bit = c := by cases c <;> rfl
theorem Granule.bit_ofBit (b : Bool) : (Granule.ofBit b).bit = b := by cases b <;> rfl
theorem Channel.bit_ofBit (b : Bool) : (Channel.ofBit b).bit = b := by cases b <;> rfl

/-- The opcode bits determine the opcode, and only the ten assigned values have one (R101). -/
theorem Opcode.bits_of_ofBits? {b : BitVec 4} {op : Opcode} (h : Opcode.ofBits? b = some op) : op.bits = b := by
  revert b op; decide

end Sys2Proof
end

