-- ==== Sys2Proof/Laws/State.lean ====
section
/-! SUPPORT. One lemma per field per update of `State`, each true by unfolding the update once, so that no proof
unfolds a record update again. -/

namespace Sys2Proof.Machine

/-! `setSize`. -/

@[simp] theorem State.setSize_size (s : State) (v : BitVec 32) : (s.setSize v).size = v := rfl
@[simp] theorem State.setSize_max (s : State) (v : BitVec 32) : (s.setSize v).max = s.max := rfl
@[simp] theorem State.setSize_mean (s : State) (v : BitVec 32) : (s.setSize v).mean = s.mean := rfl
@[simp] theorem State.setSize_stereo (s : State) (v : BitVec 32) : (s.setSize v).stereo = s.stereo := rfl
@[simp] theorem State.setSize_gur (s : State) (v : BitVec 32) : (s.setSize v).gur = s.gur := rfl
@[simp] theorem State.setSize_drain (s : State) (v : BitVec 32) : (s.setSize v).drain = s.drain := rfl
@[simp] theorem State.setSize_result (s : State) (v : BitVec 32) : (s.setSize v).result = s.result := rfl
@[simp] theorem State.setSize_stuff (s : State) (v : BitVec 32) : (s.setSize v).stuff = s.stuff := rfl
@[simp] theorem State.setSize_status (s : State) (v : BitVec 32) : (s.setSize v).status = s.status := rfl
@[simp] theorem State.setSize_phase (s : State) (v : BitVec 32) : (s.setSize v).phase = s.phase := rfl
@[simp] theorem State.setSize_slot (s : State) (v : BitVec 32) : (s.setSize v).slot = s.slot := rfl
@[simp] theorem State.setSize_rsp (s : State) (v : BitVec 32) : (s.setSize v).rsp = s.rsp := rfl
@[simp] theorem State.setSize_inputs (s : State) (v : BitVec 32) : (s.setSize v).inputs = s.inputs := rfl

/-! `setMax`. -/

@[simp] theorem State.setMax_size (s : State) (v : BitVec 13) : (s.setMax v).size = s.size := rfl
@[simp] theorem State.setMax_max (s : State) (v : BitVec 13) : (s.setMax v).max = v := rfl
@[simp] theorem State.setMax_mean (s : State) (v : BitVec 13) : (s.setMax v).mean = s.mean := rfl
@[simp] theorem State.setMax_stereo (s : State) (v : BitVec 13) : (s.setMax v).stereo = s.stereo := rfl
@[simp] theorem State.setMax_gur (s : State) (v : BitVec 13) : (s.setMax v).gur = s.gur := rfl
@[simp] theorem State.setMax_drain (s : State) (v : BitVec 13) : (s.setMax v).drain = s.drain := rfl
@[simp] theorem State.setMax_result (s : State) (v : BitVec 13) : (s.setMax v).result = s.result := rfl
@[simp] theorem State.setMax_stuff (s : State) (v : BitVec 13) : (s.setMax v).stuff = s.stuff := rfl
@[simp] theorem State.setMax_status (s : State) (v : BitVec 13) : (s.setMax v).status = s.status := rfl
@[simp] theorem State.setMax_phase (s : State) (v : BitVec 13) : (s.setMax v).phase = s.phase := rfl
@[simp] theorem State.setMax_slot (s : State) (v : BitVec 13) : (s.setMax v).slot = s.slot := rfl
@[simp] theorem State.setMax_rsp (s : State) (v : BitVec 13) : (s.setMax v).rsp = s.rsp := rfl
@[simp] theorem State.setMax_inputs (s : State) (v : BitVec 13) : (s.setMax v).inputs = s.inputs := rfl

/-! `setCfg`. -/

@[simp] theorem State.setCfg_size (s : State) (m : BitVec 16) (b : Bool) : (s.setCfg m b).size = s.size := rfl
@[simp] theorem State.setCfg_max (s : State) (m : BitVec 16) (b : Bool) : (s.setCfg m b).max = s.max := rfl
@[simp] theorem State.setCfg_mean (s : State) (m : BitVec 16) (b : Bool) : (s.setCfg m b).mean = m := rfl
@[simp] theorem State.setCfg_stereo (s : State) (m : BitVec 16) (b : Bool) : (s.setCfg m b).stereo = b := rfl
@[simp] theorem State.setCfg_gur (s : State) (m : BitVec 16) (b : Bool) : (s.setCfg m b).gur = s.gur := rfl
@[simp] theorem State.setCfg_drain (s : State) (m : BitVec 16) (b : Bool) : (s.setCfg m b).drain = s.drain := rfl
@[simp] theorem State.setCfg_result (s : State) (m : BitVec 16) (b : Bool) : (s.setCfg m b).result = s.result := rfl
@[simp] theorem State.setCfg_stuff (s : State) (m : BitVec 16) (b : Bool) : (s.setCfg m b).stuff = s.stuff := rfl
@[simp] theorem State.setCfg_status (s : State) (m : BitVec 16) (b : Bool) : (s.setCfg m b).status = s.status := rfl
@[simp] theorem State.setCfg_phase (s : State) (m : BitVec 16) (b : Bool) : (s.setCfg m b).phase = s.phase := rfl
@[simp] theorem State.setCfg_slot (s : State) (m : BitVec 16) (b : Bool) : (s.setCfg m b).slot = s.slot := rfl
@[simp] theorem State.setCfg_rsp (s : State) (m : BitVec 16) (b : Bool) : (s.setCfg m b).rsp = s.rsp := rfl
@[simp] theorem State.setCfg_inputs (s : State) (m : BitVec 16) (b : Bool) : (s.setCfg m b).inputs = s.inputs := rfl

/-! `setGur`. -/

@[simp] theorem State.setGur_size (s : State) (v : RecordFile) : (s.setGur v).size = s.size := rfl
@[simp] theorem State.setGur_max (s : State) (v : RecordFile) : (s.setGur v).max = s.max := rfl
@[simp] theorem State.setGur_mean (s : State) (v : RecordFile) : (s.setGur v).mean = s.mean := rfl
@[simp] theorem State.setGur_stereo (s : State) (v : RecordFile) : (s.setGur v).stereo = s.stereo := rfl
@[simp] theorem State.setGur_gur (s : State) (v : RecordFile) : (s.setGur v).gur = v := rfl
@[simp] theorem State.setGur_drain (s : State) (v : RecordFile) : (s.setGur v).drain = s.drain := rfl
@[simp] theorem State.setGur_result (s : State) (v : RecordFile) : (s.setGur v).result = s.result := rfl
@[simp] theorem State.setGur_stuff (s : State) (v : RecordFile) : (s.setGur v).stuff = s.stuff := rfl
@[simp] theorem State.setGur_status (s : State) (v : RecordFile) : (s.setGur v).status = s.status := rfl
@[simp] theorem State.setGur_phase (s : State) (v : RecordFile) : (s.setGur v).phase = s.phase := rfl
@[simp] theorem State.setGur_slot (s : State) (v : RecordFile) : (s.setGur v).slot = s.slot := rfl
@[simp] theorem State.setGur_rsp (s : State) (v : RecordFile) : (s.setGur v).rsp = s.rsp := rfl
@[simp] theorem State.setGur_inputs (s : State) (v : RecordFile) : (s.setGur v).inputs = s.inputs := rfl

/-! `setDrain`. -/

@[simp] theorem State.setDrain_size (s : State) (v : BitVec 32) : (s.setDrain v).size = s.size := rfl
@[simp] theorem State.setDrain_max (s : State) (v : BitVec 32) : (s.setDrain v).max = s.max := rfl
@[simp] theorem State.setDrain_mean (s : State) (v : BitVec 32) : (s.setDrain v).mean = s.mean := rfl
@[simp] theorem State.setDrain_stereo (s : State) (v : BitVec 32) : (s.setDrain v).stereo = s.stereo := rfl
@[simp] theorem State.setDrain_gur (s : State) (v : BitVec 32) : (s.setDrain v).gur = s.gur := rfl
@[simp] theorem State.setDrain_drain (s : State) (v : BitVec 32) : (s.setDrain v).drain = v := rfl
@[simp] theorem State.setDrain_result (s : State) (v : BitVec 32) : (s.setDrain v).result = s.result := rfl
@[simp] theorem State.setDrain_stuff (s : State) (v : BitVec 32) : (s.setDrain v).stuff = s.stuff := rfl
@[simp] theorem State.setDrain_status (s : State) (v : BitVec 32) : (s.setDrain v).status = s.status := rfl
@[simp] theorem State.setDrain_phase (s : State) (v : BitVec 32) : (s.setDrain v).phase = s.phase := rfl
@[simp] theorem State.setDrain_slot (s : State) (v : BitVec 32) : (s.setDrain v).slot = s.slot := rfl
@[simp] theorem State.setDrain_rsp (s : State) (v : BitVec 32) : (s.setDrain v).rsp = s.rsp := rfl
@[simp] theorem State.setDrain_inputs (s : State) (v : BitVec 32) : (s.setDrain v).inputs = s.inputs := rfl

/-! `setResult`. -/

@[simp] theorem State.setResult_size (s : State) (v : BitVec 32) : (s.setResult v).size = s.size := rfl
@[simp] theorem State.setResult_max (s : State) (v : BitVec 32) : (s.setResult v).max = s.max := rfl
@[simp] theorem State.setResult_mean (s : State) (v : BitVec 32) : (s.setResult v).mean = s.mean := rfl
@[simp] theorem State.setResult_stereo (s : State) (v : BitVec 32) : (s.setResult v).stereo = s.stereo := rfl
@[simp] theorem State.setResult_gur (s : State) (v : BitVec 32) : (s.setResult v).gur = s.gur := rfl
@[simp] theorem State.setResult_drain (s : State) (v : BitVec 32) : (s.setResult v).drain = s.drain := rfl
@[simp] theorem State.setResult_result (s : State) (v : BitVec 32) : (s.setResult v).result = v := rfl
@[simp] theorem State.setResult_stuff (s : State) (v : BitVec 32) : (s.setResult v).stuff = s.stuff := rfl
@[simp] theorem State.setResult_status (s : State) (v : BitVec 32) : (s.setResult v).status = s.status := rfl
@[simp] theorem State.setResult_phase (s : State) (v : BitVec 32) : (s.setResult v).phase = s.phase := rfl
@[simp] theorem State.setResult_slot (s : State) (v : BitVec 32) : (s.setResult v).slot = s.slot := rfl
@[simp] theorem State.setResult_rsp (s : State) (v : BitVec 32) : (s.setResult v).rsp = s.rsp := rfl
@[simp] theorem State.setResult_inputs (s : State) (v : BitVec 32) : (s.setResult v).inputs = s.inputs := rfl

/-! `setStuff`. -/

@[simp] theorem State.setStuff_size (s : State) (v : BitVec 32) : (s.setStuff v).size = s.size := rfl
@[simp] theorem State.setStuff_max (s : State) (v : BitVec 32) : (s.setStuff v).max = s.max := rfl
@[simp] theorem State.setStuff_mean (s : State) (v : BitVec 32) : (s.setStuff v).mean = s.mean := rfl
@[simp] theorem State.setStuff_stereo (s : State) (v : BitVec 32) : (s.setStuff v).stereo = s.stereo := rfl
@[simp] theorem State.setStuff_gur (s : State) (v : BitVec 32) : (s.setStuff v).gur = s.gur := rfl
@[simp] theorem State.setStuff_drain (s : State) (v : BitVec 32) : (s.setStuff v).drain = s.drain := rfl
@[simp] theorem State.setStuff_result (s : State) (v : BitVec 32) : (s.setStuff v).result = s.result := rfl
@[simp] theorem State.setStuff_stuff (s : State) (v : BitVec 32) : (s.setStuff v).stuff = v := rfl
@[simp] theorem State.setStuff_status (s : State) (v : BitVec 32) : (s.setStuff v).status = s.status := rfl
@[simp] theorem State.setStuff_phase (s : State) (v : BitVec 32) : (s.setStuff v).phase = s.phase := rfl
@[simp] theorem State.setStuff_slot (s : State) (v : BitVec 32) : (s.setStuff v).slot = s.slot := rfl
@[simp] theorem State.setStuff_rsp (s : State) (v : BitVec 32) : (s.setStuff v).rsp = s.rsp := rfl
@[simp] theorem State.setStuff_inputs (s : State) (v : BitVec 32) : (s.setStuff v).inputs = s.inputs := rfl

/-! `setStatus`. -/

@[simp] theorem State.setStatus_size (s : State) (v : Status) : (s.setStatus v).size = s.size := rfl
@[simp] theorem State.setStatus_max (s : State) (v : Status) : (s.setStatus v).max = s.max := rfl
@[simp] theorem State.setStatus_mean (s : State) (v : Status) : (s.setStatus v).mean = s.mean := rfl
@[simp] theorem State.setStatus_stereo (s : State) (v : Status) : (s.setStatus v).stereo = s.stereo := rfl
@[simp] theorem State.setStatus_gur (s : State) (v : Status) : (s.setStatus v).gur = s.gur := rfl
@[simp] theorem State.setStatus_drain (s : State) (v : Status) : (s.setStatus v).drain = s.drain := rfl
@[simp] theorem State.setStatus_result (s : State) (v : Status) : (s.setStatus v).result = s.result := rfl
@[simp] theorem State.setStatus_stuff (s : State) (v : Status) : (s.setStatus v).stuff = s.stuff := rfl
@[simp] theorem State.setStatus_status (s : State) (v : Status) : (s.setStatus v).status = v := rfl
@[simp] theorem State.setStatus_phase (s : State) (v : Status) : (s.setStatus v).phase = s.phase := rfl
@[simp] theorem State.setStatus_slot (s : State) (v : Status) : (s.setStatus v).slot = s.slot := rfl
@[simp] theorem State.setStatus_rsp (s : State) (v : Status) : (s.setStatus v).rsp = s.rsp := rfl
@[simp] theorem State.setStatus_inputs (s : State) (v : Status) : (s.setStatus v).inputs = s.inputs := rfl

/-! `setPhase`. -/

@[simp] theorem State.setPhase_size (s : State) (v : Phase) : (s.setPhase v).size = s.size := rfl
@[simp] theorem State.setPhase_max (s : State) (v : Phase) : (s.setPhase v).max = s.max := rfl
@[simp] theorem State.setPhase_mean (s : State) (v : Phase) : (s.setPhase v).mean = s.mean := rfl
@[simp] theorem State.setPhase_stereo (s : State) (v : Phase) : (s.setPhase v).stereo = s.stereo := rfl
@[simp] theorem State.setPhase_gur (s : State) (v : Phase) : (s.setPhase v).gur = s.gur := rfl
@[simp] theorem State.setPhase_drain (s : State) (v : Phase) : (s.setPhase v).drain = s.drain := rfl
@[simp] theorem State.setPhase_result (s : State) (v : Phase) : (s.setPhase v).result = s.result := rfl
@[simp] theorem State.setPhase_stuff (s : State) (v : Phase) : (s.setPhase v).stuff = s.stuff := rfl
@[simp] theorem State.setPhase_status (s : State) (v : Phase) : (s.setPhase v).status = s.status := rfl
@[simp] theorem State.setPhase_phase (s : State) (v : Phase) : (s.setPhase v).phase = v := rfl
@[simp] theorem State.setPhase_slot (s : State) (v : Phase) : (s.setPhase v).slot = s.slot := rfl
@[simp] theorem State.setPhase_rsp (s : State) (v : Phase) : (s.setPhase v).rsp = s.rsp := rfl
@[simp] theorem State.setPhase_inputs (s : State) (v : Phase) : (s.setPhase v).inputs = s.inputs := rfl

/-! `setSlot`. -/

@[simp] theorem State.setSlot_size (s : State) (v : BitVec 3) : (s.setSlot v).size = s.size := rfl
@[simp] theorem State.setSlot_max (s : State) (v : BitVec 3) : (s.setSlot v).max = s.max := rfl
@[simp] theorem State.setSlot_mean (s : State) (v : BitVec 3) : (s.setSlot v).mean = s.mean := rfl
@[simp] theorem State.setSlot_stereo (s : State) (v : BitVec 3) : (s.setSlot v).stereo = s.stereo := rfl
@[simp] theorem State.setSlot_gur (s : State) (v : BitVec 3) : (s.setSlot v).gur = s.gur := rfl
@[simp] theorem State.setSlot_drain (s : State) (v : BitVec 3) : (s.setSlot v).drain = s.drain := rfl
@[simp] theorem State.setSlot_result (s : State) (v : BitVec 3) : (s.setSlot v).result = s.result := rfl
@[simp] theorem State.setSlot_stuff (s : State) (v : BitVec 3) : (s.setSlot v).stuff = s.stuff := rfl
@[simp] theorem State.setSlot_status (s : State) (v : BitVec 3) : (s.setSlot v).status = s.status := rfl
@[simp] theorem State.setSlot_phase (s : State) (v : BitVec 3) : (s.setSlot v).phase = s.phase := rfl
@[simp] theorem State.setSlot_slot (s : State) (v : BitVec 3) : (s.setSlot v).slot = v := rfl
@[simp] theorem State.setSlot_rsp (s : State) (v : BitVec 3) : (s.setSlot v).rsp = s.rsp := rfl
@[simp] theorem State.setSlot_inputs (s : State) (v : BitVec 3) : (s.setSlot v).inputs = s.inputs := rfl

/-! `setRsp`. -/

@[simp] theorem State.setRsp_size (s : State) (v : Option Word) : (s.setRsp v).size = s.size := rfl
@[simp] theorem State.setRsp_max (s : State) (v : Option Word) : (s.setRsp v).max = s.max := rfl
@[simp] theorem State.setRsp_mean (s : State) (v : Option Word) : (s.setRsp v).mean = s.mean := rfl
@[simp] theorem State.setRsp_stereo (s : State) (v : Option Word) : (s.setRsp v).stereo = s.stereo := rfl
@[simp] theorem State.setRsp_gur (s : State) (v : Option Word) : (s.setRsp v).gur = s.gur := rfl
@[simp] theorem State.setRsp_drain (s : State) (v : Option Word) : (s.setRsp v).drain = s.drain := rfl
@[simp] theorem State.setRsp_result (s : State) (v : Option Word) : (s.setRsp v).result = s.result := rfl
@[simp] theorem State.setRsp_stuff (s : State) (v : Option Word) : (s.setRsp v).stuff = s.stuff := rfl
@[simp] theorem State.setRsp_status (s : State) (v : Option Word) : (s.setRsp v).status = s.status := rfl
@[simp] theorem State.setRsp_phase (s : State) (v : Option Word) : (s.setRsp v).phase = s.phase := rfl
@[simp] theorem State.setRsp_slot (s : State) (v : Option Word) : (s.setRsp v).slot = s.slot := rfl
@[simp] theorem State.setRsp_rsp (s : State) (v : Option Word) : (s.setRsp v).rsp = v := rfl
@[simp] theorem State.setRsp_inputs (s : State) (v : Option Word) : (s.setRsp v).inputs = s.inputs := rfl

/-! `setInputs`. -/

@[simp] theorem State.setInputs_size (s : State) (v : List Pins) : (s.setInputs v).size = s.size := rfl
@[simp] theorem State.setInputs_max (s : State) (v : List Pins) : (s.setInputs v).max = s.max := rfl
@[simp] theorem State.setInputs_mean (s : State) (v : List Pins) : (s.setInputs v).mean = s.mean := rfl
@[simp] theorem State.setInputs_stereo (s : State) (v : List Pins) : (s.setInputs v).stereo = s.stereo := rfl
@[simp] theorem State.setInputs_gur (s : State) (v : List Pins) : (s.setInputs v).gur = s.gur := rfl
@[simp] theorem State.setInputs_drain (s : State) (v : List Pins) : (s.setInputs v).drain = s.drain := rfl
@[simp] theorem State.setInputs_result (s : State) (v : List Pins) : (s.setInputs v).result = s.result := rfl
@[simp] theorem State.setInputs_stuff (s : State) (v : List Pins) : (s.setInputs v).stuff = s.stuff := rfl
@[simp] theorem State.setInputs_status (s : State) (v : List Pins) : (s.setInputs v).status = s.status := rfl
@[simp] theorem State.setInputs_phase (s : State) (v : List Pins) : (s.setInputs v).phase = s.phase := rfl
@[simp] theorem State.setInputs_slot (s : State) (v : List Pins) : (s.setInputs v).slot = s.slot := rfl
@[simp] theorem State.setInputs_rsp (s : State) (v : List Pins) : (s.setInputs v).rsp = s.rsp := rfl
@[simp] theorem State.setInputs_inputs (s : State) (v : List Pins) : (s.setInputs v).inputs = v := rfl

/-! `flagIf` writes STATUS only. -/

@[simp] theorem State.flagIf_size (s : State) (f : StatusFlag) (b : Bool) : (s.flagIf f b).size = s.size := rfl
@[simp] theorem State.flagIf_max (s : State) (f : StatusFlag) (b : Bool) : (s.flagIf f b).max = s.max := rfl
@[simp] theorem State.flagIf_mean (s : State) (f : StatusFlag) (b : Bool) : (s.flagIf f b).mean = s.mean := rfl
@[simp] theorem State.flagIf_stereo (s : State) (f : StatusFlag) (b : Bool) : (s.flagIf f b).stereo = s.stereo := rfl
@[simp] theorem State.flagIf_gur (s : State) (f : StatusFlag) (b : Bool) : (s.flagIf f b).gur = s.gur := rfl
@[simp] theorem State.flagIf_drain (s : State) (f : StatusFlag) (b : Bool) : (s.flagIf f b).drain = s.drain := rfl
@[simp] theorem State.flagIf_result (s : State) (f : StatusFlag) (b : Bool) : (s.flagIf f b).result = s.result := rfl
@[simp] theorem State.flagIf_stuff (s : State) (f : StatusFlag) (b : Bool) : (s.flagIf f b).stuff = s.stuff := rfl
@[simp] theorem State.flagIf_status (s : State) (f : StatusFlag) (b : Bool) : (s.flagIf f b).status = s.status.raise f b := rfl
@[simp] theorem State.flagIf_phase (s : State) (f : StatusFlag) (b : Bool) : (s.flagIf f b).phase = s.phase := rfl
@[simp] theorem State.flagIf_slot (s : State) (f : StatusFlag) (b : Bool) : (s.flagIf f b).slot = s.slot := rfl
@[simp] theorem State.flagIf_rsp (s : State) (f : StatusFlag) (b : Bool) : (s.flagIf f b).rsp = s.rsp := rfl
@[simp] theorem State.flagIf_inputs (s : State) (f : StatusFlag) (b : Bool) : (s.flagIf f b).inputs = s.inputs := rfl

/-! `setPlan` writes STATUS only. -/

@[simp] theorem State.setPlan_size (s : State) (p : Plan) : (s.setPlan p).size = s.size := rfl
@[simp] theorem State.setPlan_max (s : State) (p : Plan) : (s.setPlan p).max = s.max := rfl
@[simp] theorem State.setPlan_mean (s : State) (p : Plan) : (s.setPlan p).mean = s.mean := rfl
@[simp] theorem State.setPlan_stereo (s : State) (p : Plan) : (s.setPlan p).stereo = s.stereo := rfl
@[simp] theorem State.setPlan_gur (s : State) (p : Plan) : (s.setPlan p).gur = s.gur := rfl
@[simp] theorem State.setPlan_drain (s : State) (p : Plan) : (s.setPlan p).drain = s.drain := rfl
@[simp] theorem State.setPlan_result (s : State) (p : Plan) : (s.setPlan p).result = s.result := rfl
@[simp] theorem State.setPlan_stuff (s : State) (p : Plan) : (s.setPlan p).stuff = s.stuff := rfl
@[simp] theorem State.setPlan_status (s : State) (p : Plan) : (s.setPlan p).status = s.status.setPlan p := rfl
@[simp] theorem State.setPlan_phase (s : State) (p : Plan) : (s.setPlan p).phase = s.phase := rfl
@[simp] theorem State.setPlan_slot (s : State) (p : Plan) : (s.setPlan p).slot = s.slot := rfl
@[simp] theorem State.setPlan_rsp (s : State) (p : Plan) : (s.setPlan p).rsp = s.rsp := rfl
@[simp] theorem State.setPlan_inputs (s : State) (p : Plan) : (s.setPlan p).inputs = s.inputs := rfl

/-! `writeSize` writes SIZE only. -/

@[simp] theorem State.writeSize_size (s : State) (v : Int) : (s.writeSize v).size = BitVec.ofInt 32 v := rfl
@[simp] theorem State.writeSize_max (s : State) (v : Int) : (s.writeSize v).max = s.max := rfl
@[simp] theorem State.writeSize_mean (s : State) (v : Int) : (s.writeSize v).mean = s.mean := rfl
@[simp] theorem State.writeSize_stereo (s : State) (v : Int) : (s.writeSize v).stereo = s.stereo := rfl
@[simp] theorem State.writeSize_gur (s : State) (v : Int) : (s.writeSize v).gur = s.gur := rfl
@[simp] theorem State.writeSize_drain (s : State) (v : Int) : (s.writeSize v).drain = s.drain := rfl
@[simp] theorem State.writeSize_result (s : State) (v : Int) : (s.writeSize v).result = s.result := rfl
@[simp] theorem State.writeSize_stuff (s : State) (v : Int) : (s.writeSize v).stuff = s.stuff := rfl
@[simp] theorem State.writeSize_status (s : State) (v : Int) : (s.writeSize v).status = s.status := rfl
@[simp] theorem State.writeSize_phase (s : State) (v : Int) : (s.writeSize v).phase = s.phase := rfl
@[simp] theorem State.writeSize_slot (s : State) (v : Int) : (s.writeSize v).slot = s.slot := rfl
@[simp] theorem State.writeSize_rsp (s : State) (v : Int) : (s.writeSize v).rsp = s.rsp := rfl
@[simp] theorem State.writeSize_inputs (s : State) (v : Int) : (s.writeSize v).inputs = s.inputs := rfl

/-! `writeSizeSat` writes SIZE and STATUS only. -/

@[simp] theorem State.writeSizeSat_size (s : State) (v : Int) : (s.writeSizeSat v).size = BitVec.ofInt 32 (clamp32 v) := rfl
@[simp] theorem State.writeSizeSat_max (s : State) (v : Int) : (s.writeSizeSat v).max = s.max := rfl
@[simp] theorem State.writeSizeSat_mean (s : State) (v : Int) : (s.writeSizeSat v).mean = s.mean := rfl
@[simp] theorem State.writeSizeSat_stereo (s : State) (v : Int) : (s.writeSizeSat v).stereo = s.stereo := rfl
@[simp] theorem State.writeSizeSat_gur (s : State) (v : Int) : (s.writeSizeSat v).gur = s.gur := rfl
@[simp] theorem State.writeSizeSat_drain (s : State) (v : Int) : (s.writeSizeSat v).drain = s.drain := rfl
@[simp] theorem State.writeSizeSat_result (s : State) (v : Int) : (s.writeSizeSat v).result = s.result := rfl
@[simp] theorem State.writeSizeSat_stuff (s : State) (v : Int) : (s.writeSizeSat v).stuff = s.stuff := rfl
@[simp] theorem State.writeSizeSat_status (s : State) (v : Int) : (s.writeSizeSat v).status = s.status.raise .sat (outside32 v) := rfl
@[simp] theorem State.writeSizeSat_phase (s : State) (v : Int) : (s.writeSizeSat v).phase = s.phase := rfl
@[simp] theorem State.writeSizeSat_slot (s : State) (v : Int) : (s.writeSizeSat v).slot = s.slot := rfl
@[simp] theorem State.writeSizeSat_rsp (s : State) (v : Int) : (s.writeSizeSat v).rsp = s.rsp := rfl
@[simp] theorem State.writeSizeSat_inputs (s : State) (v : Int) : (s.writeSizeSat v).inputs = s.inputs := rfl

/-! `respond` writes the response only. -/

@[simp] theorem State.respond_size (s : State) (w : Word) : (s.respond w).size = s.size := rfl
@[simp] theorem State.respond_max (s : State) (w : Word) : (s.respond w).max = s.max := rfl
@[simp] theorem State.respond_mean (s : State) (w : Word) : (s.respond w).mean = s.mean := rfl
@[simp] theorem State.respond_stereo (s : State) (w : Word) : (s.respond w).stereo = s.stereo := rfl
@[simp] theorem State.respond_gur (s : State) (w : Word) : (s.respond w).gur = s.gur := rfl
@[simp] theorem State.respond_drain (s : State) (w : Word) : (s.respond w).drain = s.drain := rfl
@[simp] theorem State.respond_result (s : State) (w : Word) : (s.respond w).result = s.result := rfl
@[simp] theorem State.respond_stuff (s : State) (w : Word) : (s.respond w).stuff = s.stuff := rfl
@[simp] theorem State.respond_status (s : State) (w : Word) : (s.respond w).status = s.status := rfl
@[simp] theorem State.respond_phase (s : State) (w : Word) : (s.respond w).phase = s.phase := rfl
@[simp] theorem State.respond_slot (s : State) (w : Word) : (s.respond w).slot = s.slot := rfl
@[simp] theorem State.respond_rsp (s : State) (w : Word) : (s.respond w).rsp = some w := rfl
@[simp] theorem State.respond_inputs (s : State) (w : Word) : (s.respond w).inputs = s.inputs := rfl

/-! `illegalCommand` writes STATUS and the response only (R104). -/

@[simp] theorem State.illegalCommand_size (s : State) : (s.illegalCommand).size = s.size := rfl
@[simp] theorem State.illegalCommand_max (s : State) : (s.illegalCommand).max = s.max := rfl
@[simp] theorem State.illegalCommand_mean (s : State) : (s.illegalCommand).mean = s.mean := rfl
@[simp] theorem State.illegalCommand_stereo (s : State) : (s.illegalCommand).stereo = s.stereo := rfl
@[simp] theorem State.illegalCommand_gur (s : State) : (s.illegalCommand).gur = s.gur := rfl
@[simp] theorem State.illegalCommand_drain (s : State) : (s.illegalCommand).drain = s.drain := rfl
@[simp] theorem State.illegalCommand_result (s : State) : (s.illegalCommand).result = s.result := rfl
@[simp] theorem State.illegalCommand_stuff (s : State) : (s.illegalCommand).stuff = s.stuff := rfl
@[simp] theorem State.illegalCommand_status (s : State) : (s.illegalCommand).status = s.status.raise .illegal true := rfl
@[simp] theorem State.illegalCommand_phase (s : State) : (s.illegalCommand).phase = s.phase := rfl
@[simp] theorem State.illegalCommand_slot (s : State) : (s.illegalCommand).slot = s.slot := rfl
@[simp] theorem State.illegalCommand_rsp (s : State) : (s.illegalCommand).rsp = some 0 := rfl
@[simp] theorem State.illegalCommand_inputs (s : State) : (s.illegalCommand).inputs = s.inputs := rfl

end Sys2Proof.Machine
end

