-- ==== Sys2Proof/Laws/Ops.lean ====
section
/-! SUPPORT. What each shared operation can do: sticky flags, the record file, the saturating write, and the truncating
division of 00_scope.md R14 in the terms `omega` reads. -/

namespace Sys2Proof.Machine

/-! Sticky flags (R42, R221). -/

/-- After an event exactly its flag is set; the others are as before. -/
theorem Status.get_raise (st : Status) (f g : StatusFlag) (b : Bool) :
    (st.raise f b).get g = if f = g then st.get g || b else st.get g := by
  cases f <;> cases g <;> simp [Status.raise, Status.get]

@[simp] theorem Status.lastPlan_raise (st : Status) (f : StatusFlag) (b : Bool) : (st.raise f b).lastPlan = st.lastPlan := by
  cases f <;> rfl

/-- The illegal command, spelled out (R104). -/
theorem State.illegalCommand_eq (s : State) :
    s.illegalCommand = { s with status := { s.status with illegal := true }, rsp := some 0 } := by
  simp [State.illegalCommand, State.flagIf, State.setStatus, State.respond, State.setRsp, Status.raise]

@[simp] theorem Status.raise_false (st : Status) (f : StatusFlag) : st.raise f false = st := by
  cases f <;> simp [Status.raise]

@[simp] theorem Status.lastPlan_setPlan (st : Status) (p : Plan) : (st.setPlan p).lastPlan = p := rfl

@[simp] theorem Status.get_setPlan (st : Status) (p : Plan) (f : StatusFlag) : (st.setPlan p).get f = st.get f := by
  cases f <;> rfl

/-- A flag once set stays set under any event. -/
theorem Status.get_raise_of_get {st : Status} {f g : StatusFlag} {b : Bool} (h : st.get g = true) :
    (st.raise f b).get g = true := by
  rw [Status.get_raise]; split <;> simp [h]

/-! The record file (R15, R38). -/

@[simp] theorem RecordFile.get_set_self (f : RecordFile) (g : Granule) (c : Channel) (v : Record) :
    (f.set g c v).get g c = v := by
  cases g <;> cases c <;> rfl

theorem RecordFile.get_set_other (f : RecordFile) {g g' : Granule} {c c' : Channel} (v : Record)
    (h : (g, c) ≠ (g', c')) : (f.set g c v).get g' c' = f.get g' c' := by
  cases g <;> cases c <;> cases g' <;> cases c' <;> first | rfl | exact absurd rfl h

@[simp] theorem RecordFile.get_zero (g : Granule) (c : Channel) : RecordFile.zero.get g c = 0 := by
  cases g <;> cases c <;> rfl

theorem RecordFile.ext_get {f f' : RecordFile} (h : ∀ g c, f.get g c = f'.get g c) : f = f' := by
  cases f; cases f'
  have h00 := h .g0 .c0
  have h01 := h .g0 .c1
  have h10 := h .g1 .c0
  have h11 := h .g1 .c1
  simp only [RecordFile.get] at h00 h01 h10 h11
  subst h00 h01 h10 h11
  rfl

/-! Division and remainder (R14). -/

/-- `a rem n` in the terms of the Euclidean remainder. -/
theorem tmod_eq_ite (a n : Int) : a.tmod n = if 0 ≤ a then a % n else -((-a) % n) := by
  split
  · exact Int.tmod_eq_emod_of_nonneg ‹_›
  · rw [← Int.tmod_eq_emod_of_nonneg (by omega), Int.neg_tmod, Int.neg_neg]

/-- `a div n` in the terms of the Euclidean quotient. -/
theorem tdiv_eq_ite (a n : Int) : a.tdiv n = if 0 ≤ a then a / n else -((-a) / n) := by
  split
  · exact Int.tdiv_eq_ediv_of_nonneg ‹_›
  · rw [← Int.tdiv_eq_ediv_of_nonneg (by omega), Int.neg_tdiv, Int.neg_neg]

/-! The saturating write (R15, R162). -/

theorem clamp32_range (v : Int) : -2147483648 ≤ clamp32 v ∧ clamp32 v ≤ 2147483647 := by
  unfold clamp32; omega

theorem clamp32_of_inside {v : Int} (h : outside32 v = false) : clamp32 v = v := by
  simp [outside32] at h; unfold clamp32; omega

/-- A 32-bit register written with an integer in range reads as that integer. -/
theorem toInt_ofInt32 {v : Int} (h1 : -2147483648 ≤ v) (h2 : v ≤ 2147483647) : (BitVec.ofInt 32 v).toInt = v := by
  rw [BitVec.toInt_ofInt, Int.bmod_def]; omega

theorem toInt_clamp32 (v : Int) : (BitVec.ofInt 32 (clamp32 v)).toInt = clamp32 v :=
  toInt_ofInt32 (clamp32_range v).1 (clamp32_range v).2

/-- Every 32-bit register reads as an integer in range. -/
theorem toInt32_range (v : BitVec 32) : -2147483648 ≤ v.toInt ∧ v.toInt ≤ 2147483647 := by
  have h1 := BitVec.le_toInt v
  have h2 := BitVec.toInt_lt (x := v)
  omega

/-! Operand values (R17). -/

theorem uint_nonneg {w : Nat} (v : BitVec w) : 0 ≤ uint v := Int.natCast_nonneg _

theorem State.nch_eq (s : State) : s.nch = if s.stereo then 2 else 1 := rfl

/-- The share lies in 0 to 65535. -/
theorem State.share_range (s : State) : 0 ≤ s.share ∧ s.share ≤ 65535 := by
  have h := s.mean.isLt
  have hn : (0 : Int) ≤ uint s.mean := uint_nonneg _
  unfold State.share State.nch
  rw [tdiv_eq_ite, if_pos hn]
  unfold uint at *
  cases s.stereo <;> simp <;> omega

end Sys2Proof.Machine
end

