-- ==== Sys2Proof/Laws/FrameEnd.lean ====
section
/-! SUPPORT. The parts of FEND, each said once: what a visit of Plan B does and that the early stop changes no result
(43_frame_end.md R177), and which registers each part leaves alone (R170). -/

namespace Sys2Proof.Machine

/-- The visited record grows by what its room allows. -/
theorem placeIn_get (f : RecordFile) (g : Granule) (c : Channel) (n : Nat) :
    ((placeIn f g c n).1.get g c).toNat = (f.get g c).toNat + min (4095 - (f.get g c).toNat) n := by
  have := (f.get g c).isLt
  simp [placeIn]; omega

/-- A visit with nothing left changes no record. -/
theorem placeIn_zero (f : RecordFile) (g : Granule) (c : Channel) : (placeIn f g c 0).1 = f := by
  apply RecordFile.ext_get
  intro g' c'
  by_cases h : (g, c) = (g', c')
  · cases h; simp [placeIn]
  · simp only [placeIn, Nat.min_zero, Nat.add_zero]; rw [RecordFile.get_set_other _ _ h]

@[simp] theorem placeAll_nil (f : RecordFile) (n : Nat) : placeAll [] f n = (f, n) := rfl

@[simp] theorem placeAll_zero (l : List Slot) (f : RecordFile) : placeAll l f 0 = (f, 0) := by
  cases l <;> simp [placeAll]

/-- "Stopping early changes no result" (R177): Plan B as a plain pass over the slots. -/
theorem placeAll_cons (g : Granule) (c : Channel) (rest : List Slot) (f : RecordFile) (n : Nat) :
    placeAll ((g, c) :: rest) f n = placeAll rest (placeIn f g c n).1 (n - (4095 - (f.get g c).toNat)) := by
  rw [placeAll]
  split
  · subst n; simp [placeIn_zero]
  · congr 1; simp only [placeIn]; omega

/-- The parity fix writes SIZE and SAT only. -/
theorem State.parityFix_frame (s : State) :
    s.parityFix.max = s.max ∧ s.parityFix.mean = s.mean ∧ s.parityFix.stereo = s.stereo ∧ s.parityFix.gur = s.gur ∧
      s.parityFix.drain = s.drain ∧ s.parityFix.result = s.result ∧ s.parityFix.stuff = s.stuff ∧
      s.parityFix.phase = s.phase ∧ s.parityFix.slot = s.slot ∧ s.parityFix.rsp = s.rsp ∧
      s.parityFix.inputs = s.inputs ∧ s.parityFix.status.lastPlan = s.status.lastPlan := by
  unfold State.parityFix; split <;> simp

/-- Placing writes the records, DRAIN and LAST_PLAN only. -/
theorem State.place_frame (s : State) (n : Int) :
    (s.place n).size = s.size ∧ (s.place n).max = s.max ∧ (s.place n).mean = s.mean ∧
      (s.place n).stereo = s.stereo ∧ (s.place n).result = s.result ∧ (s.place n).stuff = s.stuff ∧
      (s.place n).phase = s.phase ∧ (s.place n).slot = s.slot ∧ (s.place n).rsp = s.rsp ∧
      (s.place n).inputs = s.inputs ∧ ∀ f, (s.place n).status.get f = s.status.get f := by
  unfold State.place State.planA State.planB
  split_ifs <;> simp

end Sys2Proof.Machine
end

