-- ==== Sys2Proof/Laws/Step.lean ====
section
/-! SUPPORT. What a step can do, said once: no command stops (60_exceptions.md R220), the meaning of each command on the
registers as one equation, and the cases of a clock edge (30_encoding.md R90). -/

namespace Sys2Proof.Machine

/-- The state a command leaves. -/
def execNext (i : Instr) (s : State) : State :=
  match exec i s with
  | .next t => t
  | .fault _ => s
  | .refused _ => s

/-- Every command completes: `exec` answers a next state (R220). -/
theorem exec_eq_next (i : Instr) (s : State) : exec i s = .next (execNext i s) := by
  unfold execNext
  cases i with
  | nop => rfl
  | fbegin len => rfl
  | maxbits pe => rfl
  | adjust used => rfl
  | fend => rfl
  | wrcfg mean stereo => rfl
  | wrrec gr ch val => simp only [exec, execWrrec]; split <;> rfl
  | rdrec gr ch => simp only [exec, execRdrec]; split <;> rfl
  | rdreg sel => simp only [exec, execRdreg]; split <;> rfl
  | clrside => rfl

/-! What each command leaves, as one equation. -/

theorem execNext_nop (s : State) : execNext .nop s = s.respond 0 := rfl

theorem execNext_fbegin (len : BitVec 16) (s : State) :
    execNext (.fbegin len) s =
      ((((s.flagIf .seqErr s.seqErrFbegin).setMax (BitVec.ofInt 13 (frameCeiling (uint len)))).setPhase
        .awaitGranule).setSlot 0).respond 0 := rfl

theorem execNext_maxbits (pe : Opnd) (s : State) :
    execNext (.maxbits pe) s =
      ((((s.flagIf .seqErr s.seqErrMaxbits).flagIf .peInvalid (peInvalid (f64 pe))).setResult
        (BitVec.ofInt 32 (s.maxBits pe))).setPhase .awaitAdjust).respond (BitVec.ofInt 32 (s.maxBits pe)) := rfl

theorem execNext_adjust (used : BitVec 12) (s : State) :
    execNext (.adjust used) s =
      ((((s.flagIf .seqErr s.seqErrAdjust).writeSizeSat (s.size.toInt + s.share - uint used)).setSlot
        (nextSlot s.slot)).setPhase .awaitGranule).respond 0 := rfl

theorem execNext_wrcfg (mean : BitVec 16) (stereo : Bool) (s : State) :
    execNext (.wrcfg mean stereo) s = ((s.flagIf .cfgErr s.cfgErrWrcfg).setCfg mean stereo).respond 0 := rfl

theorem execNext_wrrec (gr : Granule) (ch : Channel) (val : Record) (s : State) :
    execNext (.wrrec gr ch val) s =
      if s.recordIllegal ch then s.illegalCommand else (s.setGur (s.gur.set gr ch val)).respond 0 := by
  simp only [execNext, exec, execWrrec]; split_ifs <;> rfl

theorem execNext_rdrec (gr : Granule) (ch : Channel) (s : State) :
    execNext (.rdrec gr ch) s =
      if s.recordIllegal ch then s.illegalCommand else s.respond ((s.gur.get gr ch).setWidth 32) := by
  simp only [execNext, exec, execRdrec]; split_ifs <;> rfl

theorem execNext_rdreg (sel : BitVec 4) (s : State) :
    execNext (.rdreg sel) s = (match s.image sel with | some w => s.respond w | none => s.illegalCommand) := by
  simp only [execNext, exec, execRdreg]; cases s.image sel <;> rfl

theorem execNext_clrside (s : State) :
    execNext .clrside s = ((s.setGur RecordFile.zero).setDrain 0).respond 0 := rfl

/-- FEND: the order check and step 1, then steps 2 and 3, then the placement of the count that step 3 left. -/
theorem execNext_fend (s : State) :
    execNext .fend s =
      (((((s.flagIf .seqErr s.seqErrFend).parityFix.settle).place
        (stuffingBits (s.flagIf .seqErr s.seqErrFend).parityFix.size.toInt
          (uint (s.flagIf .seqErr s.seqErrFend).parityFix.max))).setPhase .awaitFrame).respond 0) := rfl

/-- A selector 0 to 8 has an image (R100). -/
theorem State.image_isSome (s : State) (sel : BitVec 4) (h : sel.toNat ≤ 8) : (s.image sel).isSome = true := by
  unfold State.image
  generalize sel.toNat = n at h
  interval_cases n <;> rfl

/-- A selector 9 to 15 has none (R100). -/
theorem State.image_eq_none (s : State) (sel : BitVec 4) (h : 8 < sel.toNat) : s.image sel = none := by
  have hlt := sel.isLt
  unfold State.image
  generalize sel.toNat = n at h hlt
  interval_cases n <;> rfl

/-- The state that accepting a command leaves. -/
def acceptNext (c : Command) (s : State) : State :=
  match decode c.cw c.opnd with
  | .ok i => execNext i s
  | .error _ => s.illegalCommand

theorem accept_eq_next (c : Command) (s : State) : accept c s = .next (acceptNext c s) := by
  unfold accept acceptNext
  cases decode c.cw c.opnd with
  | ok i => exact exec_eq_next i s
  | error _ => rfl

/-- The state that one clock edge leaves (R90, R250). -/
def edgeNext (p : Pins) (s : State) : State :=
  if p.rst then s.resetEdge
  else if s.rsp.isSome then (if p.rspReady then s.setRsp none else s)
  else if p.cmdValid then acceptNext p.cmd s
  else s

theorem clockEdge_eq_next (p : Pins) (s : State) : clockEdge p s = .next (edgeNext p s) := by
  unfold clockEdge edgeNext
  split
  · rfl
  · split
    · rfl
    · split <;> simp [accept_eq_next]

/-- A step never stops: it answers the state of `stepOf` (R220). -/
theorem step_eq_next (s : State) : step s = .next (stepOf s) := by
  unfold stepOf step nextEdge
  cases s.inputs with
  | nil => rfl
  | cons p rest => simp [clockEdge_eq_next]

/-- The cases of a step: nothing driven, or one clock edge. -/
theorem stepOf_cases (s : State) :
    (s.inputs = [] ∧ stepOf s = s) ∨ ∃ p rest, s.inputs = p :: rest ∧ stepOf s = edgeNext p (s.setInputs rest) := by
  unfold stepOf step nextEdge
  cases h : s.inputs with
  | nil => exact .inl ⟨rfl, rfl⟩
  | cons p rest => exact .inr ⟨p, rest, rfl, by simp [clockEdge_eq_next]⟩

end Sys2Proof.Machine
end

