-- ==== Sys2Proof/Tests/Slice0.lean ====
section
/-! SUPPORT. The model's own tests. Every expected value is taken from the spec: the words are written out bit by bit
from the encoding tables of 30_encoding.md (R92 to R101), the effects from the vectors of 95_test_vectors.md, cited by
their id. The witnesses at the end show that the hypotheses of each statement can be met. -/

namespace Sys2Proof.Tests

open Sys2Proof Sys2Proof.Machine

/-- The outcome is a next state, and it is `t`. -/
def leaves (o : Host.Outcome State Fault Refusal) (t : State) : Bool :=
  match o with
  | .next u => decide (u = t)
  | .fault _ => false
  | .refused _ => false

/-- The outcome is a next state that meets the test `p`. -/
def leavesSuch (o : Host.Outcome State Fault Refusal) (p : State → Bool) : Bool :=
  match o with
  | .next u => p u
  | .fault _ => false
  | .refused _ => false

/-- A SIZE, RESULT or STUFF value as its 32 bits. -/
def int32 (v : Int) : BitVec 32 := BitVec.ofInt 32 v

/-- The decoder reads the word as the command. -/
def reads (cw : Word) (opnd : Opnd) (i : Instr) : Bool :=
  match decode cw opnd with
  | .ok j => decide (j = i)
  | .error _ => false

/-- The decoder rejects the word, with this name. -/
def rejects (cw : Word) (r : Reject) : Bool :=
  match decode cw 0 with
  | .ok _ => false
  | .error q => decide (q = r)

/-! Well-formedness: the one check, on RDREG's selector (R100, R102), and the range of the record index (R104). -/

theorem test_wellFormed_refuses_selector_9 : (Instr.rdreg 9).wellFormed = false := by decide
theorem test_wellFormed_refuses_selector_15 : (Instr.rdreg 15).wellFormed = false := by decide
theorem test_wellFormed_takes_selector_8 : (Instr.rdreg 8).wellFormed = true := by decide
theorem test_inRange_refuses_channel_1_in_mono :
    (Instr.wrrec .g0 .c1 5).inRange false = false ∧ (Instr.rdrec .g1 .c1).inRange false = false := by decide
theorem test_inRange_takes_channel_1_in_stereo :
    (Instr.wrrec .g0 .c1 5).inRange true = true ∧ (Instr.rdrec .g1 .c1).inRange true = true := by decide

/-! Decoding: opcode in bits 31 to 28, then the fields, each written out (R92 to R101). -/

theorem test_decode_nop : reads 0b0000_0000000000000000000000000000#32 7 .nop = true := by decide
theorem test_decode_fbegin :
    reads 0b0001_000000000000_1000000000000001#32 0 (.fbegin 32769) = true := by decide
theorem test_decode_maxbits :
    reads 0b0010_0000000000000000000000000000#32 0x8000000000000001 (.maxbits 0x8000000000000001) = true := by decide
theorem test_decode_adjust :
    reads 0b0011_0000000000000000_100000000001#32 0 (.adjust 2049) = true := by decide
theorem test_decode_fend : reads 0b0100_0000000000000000000000000000#32 0 .fend = true := by decide
theorem test_decode_wrcfg :
    reads 0b0101_00000000000_1_1000000000000001#32 0 (.wrcfg 32769 true) = true := by decide
theorem test_decode_wrrec :
    reads 0b0110_00000000000000_1_0_100000000001#32 0 (.wrrec .g1 .c0 2049) = true := by decide
theorem test_decode_rdrec :
    reads 0b0111_00000000000000_0_1_000000000000#32 0 (.rdrec .g0 .c1) = true := by decide
theorem test_decode_rdreg :
    reads 0b1000_000000000000000000000000_0101#32 0 (.rdreg 5) = true := by decide
theorem test_decode_clrside : reads 0b1001_0000000000000000000000000000#32 0 .clrside = true := by decide

/-- IL-1 to IL-5, IL-8 to IL-11: words that are no command, by the name of what is wrong. -/
theorem test_decode_rejects :
    rejects 0x00000001 (.reservedBits "NOP") = true ∧ rejects 0xA0000000 (.reservedOpcode 10) = true ∧
    rejects 0xF0000000 (.reservedOpcode 15) = true ∧ rejects 0x100103E8 (.reservedBits "FBEGIN") = true ∧
    rejects 0x300011F4 (.reservedBits "ADJUST") = true ∧ rejects 0x70000001 (.reservedBits "RDREC") = true ∧
    rejects 0x80000009 (.reservedSelector 9) = true ∧ rejects 0x8000000F (.reservedSelector 15) = true ∧
    rejects 0x50020000 (.reservedBits "WRCFG") = true := by decide

/-- The top reserved bit of each remaining command, from the field tables of R93 to R100. -/
theorem test_decode_rejects_top_reserved_bit :
    rejects 0x28000000 (.reservedBits "MAXBITS") = true ∧ rejects 0x48000000 (.reservedBits "FEND") = true ∧
    rejects 0x68000000 (.reservedBits "WRREC") = true ∧ rejects 0x88000000 (.reservedBits "RDREG") = true ∧
    rejects 0x98000000 (.reservedBits "CLRSIDE") = true := by decide

/-- R109's words, from the encoder. -/
theorem test_encode_examples :
    encode (.fbegin 1000) = (0x100003E8, 0) ∧ encode (.adjust 500) = (0x300001F4, 0) ∧
    encode (.wrcfg 1000 true) = (0x500103E8, 0) ∧ encode (.wrrec .g1 .c0 4090) = (0x60002FFA, 0) ∧
    encode (.rdrec .g1 .c1) = (0x70003000, 0) ∧ encode (.rdreg 8) = (0x80000008, 0) ∧
    encode (.maxbits 0x407F400000000000) = (0x20000000, 0x407F400000000000) := by decide

/-- The opcode table's numbering: the operand stands above the command word (log 14). -/
theorem test_decodeTableWord :
    decodeTableWord 32 0x100003E8 = some (.fbegin 1000) ∧ decodeTableWord 32 0x80000009 = none ∧
    decodeTableWord 96 (0x407F400000000000 * 2 ^ 32 + 0x20000000) = some (.maxbits 0x407F400000000000) := by decide

/-- A word of each row of the opcode table is what the very next step runs after reset. -/
theorem test_first_step_runs_the_word :
    leaves (step (State.reset.withFetchWord 32 0x00000000)) { State.reset with rsp := some 0 } = true ∧
    leaves (step (State.reset.withFetchWord 32 0x60002FFA))
      { State.reset with gur := { RecordFile.zero with r10 := 4090 }, rsp := some 0 } = true ∧
    leaves (step (State.reset.withFetchWord 32 0x20000000))
      { State.reset with phase := .awaitAdjust, rsp := some 0,
                         status := { Status.reset with seqErr := true } } = true := by decide +kernel

/-! One step per command, from the spec's vectors. -/

/-- FB-10. -/
theorem test_fbegin_out_of_order :
    leaves (exec (.fbegin 7000) { State.reset with phase := .awaitGranule, slot := 3, max := 4088 })
      { State.reset with max := 680, phase := .awaitGranule, slot := 0, rsp := some 0,
                         status := { Status.reset with seqErr := true } } = true := by decide
/-- FB-4. -/
theorem test_fbegin_just_below_the_clamp :
    leaves (exec (.fbegin 3593) State.reset)
      { State.reset with max := 4087, phase := .awaitGranule, rsp := some 0 } = true := by decide

/-- The state before MB-11: a stereo frame with an overdrawn reservoir. -/
def overdrawn : State :=
  { State.reset with mean := 1000, stereo := true, max := 4088, phase := .awaitGranule, size := int32 (-1000) }

/-- MB-11. -/
theorem test_maxbits_negative :
    leaves (exec (.maxbits 0x407F400000000000) overdrawn)
      { overdrawn with result := int32 (-100), phase := .awaitAdjust, rsp := some (int32 (-100)) } = true := by
  decide +kernel
/-- MB-22: the binary64 rounding decides. -/
theorem test_maxbits_rounding :
    leavesSuch (exec (.maxbits 0x40404A5294A5294A)
        { State.reset with stereo := true, max := 4088, phase := .awaitGranule, size := 1000 })
      (fun t => decide (t.result = 101) && t.clean) = true := by decide +kernel

/-- AD-7. -/
theorem test_adjust_saturates_at_the_top :
    leavesSuch (exec (.adjust 0)
        { State.reset with mean := 1000, stereo := true, phase := .awaitAdjust, size := int32 2147483548 })
      (fun t => decide (t.size.toInt = 2147483647) && t.status.sat && decide (t.slot = 1)) = true := by decide
/-- AD-3. -/
theorem test_adjust_goes_negative :
    leavesSuch (exec (.adjust 4095)
        { State.reset with mean := 1000, stereo := true, phase := .awaitAdjust, size := 100 })
      (fun t => decide (t.size.toInt = -3495) && t.clean) = true := by decide

/-- FE-9, the source's third scenario. -/
theorem test_fend_plan_b :
    leavesSuch (exec .fend
        { State.reset with stereo := true, max := 4088, size := 9088, phase := .awaitGranule, slot := 4,
                           gur := { r00 := 4090, r01 := 4090, r10 := 4090, r11 := 4090 } })
      (fun t => decide (t.size = 4088) && decide (t.drain = 4980) && decide (t.stuff = 5000) && t.clean &&
        decide (t.gur = { r00 := 4095, r01 := 4095, r10 := 4095, r11 := 4095 })) = true := by decide
/-- FE-14. -/
theorem test_fend_negative_rises :
    leavesSuch (exec .fend
        { State.reset with max := 4088, size := int32 (-13), phase := .awaitGranule, slot := 2 })
      (fun t => decide (t.size.toInt = -8) && decide (t.stuff.toInt = -5) && t.clean) = true := by decide

/-- HO-1. -/
theorem test_nop :
    leaves (exec .nop { State.reset with size := 5, max := 8 })
      { State.reset with size := 5, max := 8, rsp := some 0 } = true := by decide

/-- HO-3. -/
theorem test_wrcfg_inside_a_frame :
    leaves (exec (.wrcfg 1001 false) { State.reset with phase := .awaitGranule, mean := 1000, stereo := true })
      { State.reset with phase := .awaitGranule, mean := 1001, stereo := false, rsp := some 0,
                         status := { Status.reset with cfgErr := true } } = true := by decide

/-- HO-6. -/
theorem test_wrrec_last_record :
    leaves (exec (.wrrec .g1 .c1 4095) { State.reset with stereo := true })
      { State.reset with stereo := true, gur := { RecordFile.zero with r11 := 4095 }, rsp := some 0 } = true := by
  decide
/-- IL-6. -/
theorem test_wrrec_channel_1_in_mono :
    leaves (exec (.wrrec .g0 .c1 5) State.reset)
      { State.reset with rsp := some 0, status := { Status.reset with illegal := true } } = true := by decide

/-- HO-7, with three records that differ. -/
theorem test_rdrec :
    leavesSuch (exec (.rdrec .g1 .c1)
        { State.reset with stereo := true, gur := { r00 := 1, r01 := 2, r10 := 3, r11 := 4095 } })
      (fun t => decide (t.rsp = some 0x00000FFF)) = true := by decide
/-- IL-7. -/
theorem test_rdrec_channel_1_in_mono :
    leaves (exec (.rdrec .g1 .c1) State.reset)
      { State.reset with rsp := some 0, status := { Status.reset with illegal := true } } = true := by decide

/-- HO-12. -/
theorem test_rdreg_status :
    leavesSuch (exec (.rdreg 3)
        { State.reset with status := { Status.reset with seqErr := true, sat := true, lastPlan := .planB } })
      (fun t => decide (t.rsp = some 0x00000209)) = true := by decide
/-- HO-19. -/
theorem test_rdreg_mdb_negative :
    leavesSuch (exec (.rdreg 8) { State.reset with size := int32 (-8) })
      (fun t => decide (t.rsp = some 0x000003FF)) = true := by decide

/-- HO-23: the channel-1 records too, with one channel. -/
theorem test_clrside :
    leaves (exec .clrside { State.reset with gur := { r00 := 1, r01 := 2, r10 := 3, r11 := 4 } })
      { State.reset with rsp := some 0 } = true := by decide

/-- IL-12: flags accumulate. -/
theorem test_illegal_word :
    leaves (accept { cw := 0xB0000000, opnd := 0 } { State.reset with status := { Status.reset with seqErr := true } })
      { State.reset with rsp := some 0, status := { Status.reset with seqErr := true, illegal := true } } = true := by
  decide

/-! The assembler (R107, R108). -/

/-- P1 step 1, with a comment and a second line. -/
theorem test_assemble_two_lines :
    assemble "wrcfg 1000, stereo ; P1\nclrside" =
      some [{ cw := 0x500103E8, opnd := 0 }, { cw := 0x90000000, opnd := 0 }] := by decide +kernel
/-- MB-13's operand, and R107's refusal of an operand that does not fit. -/
theorem test_assemble_operands :
    assemble "maxbits -5.0" = some [{ cw := 0x20000000, opnd := 0xC014000000000000 }] ∧
    assemble "adjust 4096" = none ∧ assemble "rdreg 9" = none := by decide +kernel

/-! Witnesses: the hypotheses of each statement, met by concrete values. -/

/-- MAXBITS with an infinite operand, as the host sends it. -/
def maxbitsInf : Command := { cw := 0x20000000, opnd := 0x7FF0000000000000 }

/-- A state with a reservoir at its ceiling between frames. -/
def fullReservoir : State := { State.reset with size := 4088, max := 4088 }

/-- A mono frame in which SIZE has risen as far as the call order allows, before its second ADJUST. -/
def risen : State :=
  { State.reset with size := 69623, max := 4088, mean := 65535, phase := .awaitAdjust, slot := 1,
                     inputs := [Pins.offer { cw := 0x30000000, opnd := 0 }] }

theorem fullReservoir_inv : fullReservoir.Inv :=
  ⟨by decide, by decide, by decide, by decide, by decide, by decide⟩

theorem risen_inv : risen.Inv := ⟨by decide, by decide, by decide, by decide, by decide, by decide⟩

theorem witness_DecodeOfEncode :
    (Instr.rdreg 8).wellFormed = true ∧ (Instr.rdreg 0).wellFormed = true ∧
    (Instr.maxbits 0xFFFFFFFFFFFFFFFF).wellFormed = true := by decide

theorem witness_EncodeOfDecode :
    reads 0x80000008 5 (.rdreg 8) = true ∧ reads 0x20000000 5 (.maxbits 5) = true ∧
    (Instr.maxbits 5).opcode = .maxbits := by decide

theorem witness_AcceptFollowsLegality_legal :
    legal 0x60003FFF { State.reset with stereo := true }.stereo = true ∧ legal 0x80000008 State.reset.stereo = true := by
  decide

theorem witness_AcceptFollowsLegality_illegal :
    legal 0x60003FFF State.reset.stereo = false ∧ legal 0x80000009 State.reset.stereo = false ∧
    legal 0xA0000000 State.reset.stereo = false := by decide

theorem witness_StepRunsTheOfferedCommand :
    ({ State.reset with inputs := [Pins.offer maxbitsInf] }).inputs = Pins.offer maxbitsInf :: [] ∧
    (Pins.offer maxbitsInf).rst = false ∧ State.reset.rsp = none ∧ (Pins.offer maxbitsInf).cmdValid = true ∧
    reads maxbitsInf.cw maxbitsInf.opnd (.maxbits 0x7FF0000000000000) = true := by decide

theorem witness_ResetEdgeGivesResetValues :
    ({ overdrawn with inputs := [Pins.reset, Pins.take] }).inputs = Pins.reset :: [Pins.take] ∧
    Pins.reset.rst = true := by decide

theorem witness_ResponseHeldUntilTaken :
    ({ overdrawn with rsp := some 7, inputs := [Pins.take] }).inputs = Pins.take :: [] ∧ Pins.take.rst = false ∧
    ({ overdrawn with rsp := some 7, inputs := [Pins.take] }).rsp = some 7 ∧ Pins.take.rspReady = true ∧
    (Pins.offer maxbitsInf).rspReady = false := by decide

theorem witness_IdleEdgeChangesNothing :
    ({ overdrawn with inputs := [Pins.take] }).inputs = Pins.take :: [] ∧ Pins.take.rst = false ∧
    overdrawn.rsp = none ∧ Pins.take.cmdValid = false ∧ overdrawn.inputs = [] := by decide

theorem witness_PortsRefineSession :
    overdrawn.rsp = none ∧
    leavesSuch (overdrawn.runSession [maxbitsInf, { cw := 0xA0000000, opnd := 0 }])
      (fun t => t.status.illegal && t.status.peInvalid) = true := by decide +kernel

theorem witness_ResponseWords :
    (Instr.maxbits 0).inRange false = true ∧ (Instr.rdrec .g1 .c0).inRange false = true ∧
    (Instr.rdrec .g1 .c1).inRange true = true ∧ (Instr.rdreg 8).wellFormed = true ∧
    (Instr.rdreg 8).inRange false = true ∧ legal maxbitsInf.cw true = true ∧ legal 0x28000000 true = false := by decide

theorem witness_EventsHaveExactlyTheirCauses :
    (Instr.adjust 4095).wellFormed = true ∧ (Instr.adjust 4095).inRange false = true ∧
    (Instr.wrrec .g1 .c1 0).wellFormed = true ∧ (Instr.wrrec .g1 .c1 0).inRange true = true := by decide

/-- Every flag is set, and a command runs. -/
theorem witness_OnlyResetClearsFlags :
    let s : State := { overdrawn with
      status := { seqErr := true, illegal := true, peInvalid := true, sat := true, cfgErr := true, lastPlan := .planB },
      inputs := [Pins.offer { cw := 0x40000000, opnd := 0 }] }
    s.inputs.head?.map Pins.rst = some false ∧ leavesSuch (step s) (fun _ => true) = true ∧
    (∀ f ∈ [StatusFlag.seqErr, .illegal, .peInvalid, .sat, .cfgErr], s.status.get f = true) := by decide

theorem witness_CleanEndMeansCleanThroughout :
    leavesSuch (State.reset.runSession [{ cw := 0x100003E8, opnd := 0 }]) (fun t =>
      leavesSuch (t.runSession [{ cw := 0x80000003, opnd := 0 }]) (fun u => u.clean)) = true := by decide

theorem witness_StepKeepsInvariant : risen.Inv ∧ leavesSuch (step risen) (fun t => decide (t.slot = 2)) = true :=
  ⟨risen_inv, by decide⟩

/-- SIZE stands exactly at the bound, 4088 + 65535, and SEQ_ERR is 0. -/
theorem witness_StepKeepsOrderedBound :
    risen.Inv ∧ risen.OrderedBound ∧ risen.size.toInt = 4088 + 65535 ∧ risen.status.seqErr = false ∧
    leavesSuch (step risen) (fun t => decide (t.size.toInt = 4088 + 65535 * 2) && t.clean) = true :=
  ⟨risen_inv, fun _ => ⟨by decide, by decide⟩, by decide, by decide, by decide⟩

/-- The greatest SIZE that the bound admits. -/
theorem witness_OrderedBoundExcludesTopSaturation :
    ({ risen with phase := .awaitGranule, slot := 4, size := 266228 } : State).OrderedBound ∧
    ({ risen with phase := .awaitGranule, slot := 4, size := 266228 } : State).status.seqErr = false :=
  ⟨fun _ => ⟨by decide, by decide⟩, by decide⟩

theorem witness_RegistersHaveOnlyTheirWriters :
    Instr.nop.opcode ∉
      [Opcode.fbegin, .maxbits, .adjust, .fend, .wrcfg, .wrrec, .clrside] := by decide

theorem witness_MaxbitsResultRange : 0 ≤ fullReservoir.size.toInt := by decide

theorem witness_MaxbitsWithoutReservoir :
    State.reset.max = 0 ∧ peInvalid (f64 0x7FF8000000000000) = true ∧ peInvalid (f64 0xFFF0000000000000) = true := by
  decide +kernel

/-- A NaN, an infinity, a finite operand, and the greatest finite one, whose product overflows; the greatest share. -/
theorem witness_MoreBitsFormula :
    (0 : Int) ≤ 65535 ∧ (65535 : Int) ≤ 65535 ∧ (f64 0x7FF8000000000000).isNaN = true ∧
    (f64 0xFFF0000000000000).isNaN = false ∧
    sub64 (mul64 (f64 0xFFF0000000000000) (f64 0x4008CCCCCCCCCCCD)) (toF64 65535) = .inf true ∧
    (f64 0x7FEFFFFFFFFFFFFF).isNaN = false ∧
    sub64 (mul64 (f64 0x7FEFFFFFFFFFFFFF) (f64 0x4008CCCCCCCCCCCD)) (toF64 65535) = .inf false ∧
    sub64 (mul64 (f64 0x0000000000000000) (f64 0x4008CCCCCCCCCCCD)) (toF64 65535) = .fin true (65535 * F64.one) := by
  decide +kernel

/-- Just above 100 and just below 101. -/
theorem witness_GrantComparesAfterTruncation :
    100 * F64.one < 100 * F64.one + 1 ∧ 100 * F64.one + 1 < 101 * F64.one ∧
    100 * F64.one < 101 * F64.one - 1 ∧ 101 * F64.one - 1 < 101 * F64.one := by decide +kernel

theorem witness_LimitsChangeNoBudget :
    (-2147483648 : Int) ≤ -2147483648 ∧ (-2147483648 : Int) ≤ 2147483647 ∧ (2147483647 : Int) ≤ 2147483647 := by decide

/-- A tie: 2^53 + 1 lies halfway between 2^53, which is chosen, and 2^53 + 2. -/
theorem witness_RoundingIsToNearestEven :
    0 < 1 ∧ Representable (2 ^ 53 + 2) ∧ 2 ^ 53 + 2 ≠ roundNearest (2 ^ 53 + 1) 1 ∧
    ((roundNearest (2 ^ 53 + 1) 1 * (1 : Nat) : Int) - (2 ^ 53 + 1 : Nat)).natAbs =
      (((2 ^ 53 + 2 : Nat) * (1 : Nat) : Int) - (2 ^ 53 + 1 : Nat)).natAbs :=
  ⟨by decide, ⟨2 ^ 52 + 1, 1, by decide, by decide⟩, by decide +kernel, by decide +kernel⟩

theorem witness_IntegersConvertExactly :
    (-(2 ^ 53 - 1) : Int).natAbs < 2 ^ 53 ∧ (2 ^ 53 - 1 : Int).natAbs < 2 ^ 53 := by decide

/-- Minus infinity, the greatest finite number, the least subnormal, and negative zero. -/
theorem witness_EntropyBitsAreKept :
    (f64 0xFFF0000000000000).isNaN = false ∧ (f64 0x7FEFFFFFFFFFFFFF).isNaN = false ∧
    (f64 0x0000000000000001).isNaN = false ∧ (f64 0x8000000000000000).isNaN = false := by decide +kernel

/-- FE-12's state, one bit above its ceiling after the parity fix, and FE-14's. -/
theorem witness_FendGuaranteesSize :
    let s : State := { overdrawn with mean := 1001, size := 4088 }
    0 ≤ s.parityAdjusted ∧ 0 < s.parityAdjusted - s.max.toNat ∧
    ({ overdrawn with size := int32 (-13) } : State).parityAdjusted < 0 := by decide

theorem witness_FendPlacesNothing :
    fullReservoir.stuffingCount = 0 ∧ ({ overdrawn with size := int32 (-13) } : State).stuffingCount = -5 := by decide

/-- FE-5: the record reaches 4094, so Plan A just fits. -/
theorem witness_FendPlanA :
    let s : State := { State.reset with size := 4090, max := 4080, gur := { RecordFile.zero with r00 := 4084 } }
    0 < s.stuffingCount ∧ (s.gur.r00.toNat : Int) + s.stuffingCount = 4094 := by decide

/-- FE-6: the record would reach 4095, so Plan A just fails; with one channel and with two. -/
theorem witness_FendPlanB :
    let s : State := { State.reset with size := 4090, max := 4080, gur := { RecordFile.zero with r00 := 4085 } }
    0 < s.stuffingCount ∧ (s.gur.r00.toNat : Int) + s.stuffingCount = 4095 ∧ s.stereo = false ∧
    0 < ({ s with stereo := true } : State).stuffingCount ∧
    (s.gur.r00.toNat : Int) + ({ s with stereo := true } : State).stuffingCount = 4095 := by decide

/-- A stereo state with an odd mean whose FEND leaves SIZE 0 and these records. -/
def parityOwed (f : RecordFile) : State :=
  { State.reset with stereo := true, mean := 1001, max := 4088, size := int32 (-1), gur := f }

/-- One state for each clause: the first FEND leaves what the clause assumes. -/
theorem witness_RepeatedFend :
    leavesSuch (exec .fend fullReservoir) (fun t => !t.stereo) = true ∧
    (∀ f ∈ [({ r00 := 4093, r01 := 0, r10 := 0, r11 := 0 } : RecordFile), { r00 := 4094, r01 := 0, r10 := 0, r11 := 0 },
        { r00 := 4095, r01 := 4094, r10 := 0, r11 := 0 }, { r00 := 4095, r01 := 4095, r10 := 4094, r11 := 0 },
        { r00 := 4095, r01 := 4095, r10 := 4095, r11 := 4094 }, { r00 := 4095, r01 := 4095, r10 := 4095, r11 := 4095 }],
      leavesSuch (exec .fend (parityOwed f)) (fun t => decide (t.size.toInt = 0) && decide (t.gur = f)) = true) ∧
    leavesSuch (exec .fend { parityOwed RecordFile.zero with size := int32 (-100) })
      (fun t => decide (t.size.toInt < 0)) = true := by decide

theorem witness_WrrecEffect_and_RdrecEffect :
    ((Channel.c0 = .c0 ∨ State.reset.stereo = true) ∧ (Channel.c1 = .c0 ∨ overdrawn.stereo = true)) ∧
    ((Granule.g0, Channel.c0) ≠ (.g0, .c1)) ∧ Channel.c1 = .c1 ∧ State.reset.stereo = false := by decide

theorem witness_RdregImages :
    (∀ k ∈ [0, 1, 2, 3, 4, 5, 6, 7, 8], (BitVec.ofNat 4 k).toNat ≤ 8) ∧ 8 < (9#4).toNat ∧ 8 < (15#4).toNat := by decide

/-- SIZE at 4088, where the expectation is 511. -/
theorem witness_MdbBetweenFrames :
    fullReservoir.Inv ∧ fullReservoir.phase = .awaitFrame ∧ 0 ≤ fullReservoir.size.toInt ∧
    leavesSuch (exec (.rdreg 8) fullReservoir) (fun t => decide (t.rsp = some 511)) = true :=
  ⟨fullReservoir_inv, by decide, by decide, by decide⟩

theorem witness_ReadsRepeat :
    (Instr.rdrec .g1 .c1).opcode = .rdrec ∧ (Instr.rdrec .g1 .c1).wellFormed = true ∧
    (Instr.rdrec .g1 .c1).inRange overdrawn.stereo = true ∧ (Instr.rdreg 8).opcode = .rdreg ∧
    (Instr.rdreg 8).wellFormed = true ∧ (Instr.rdreg 8).inRange overdrawn.stereo = true := by decide

/-- Two instances; the first one takes a step. -/
theorem witness_InstancesShareNothing :
    (1 : Nat) ≠ 0 ∧ ({ blocks := [risen, overdrawn] } : System).blocks[0]? = some risen ∧
    leavesSuch (step risen) (fun _ => true) = true := by decide

end Sys2Proof.Tests
end

section
/-! SUPPORT. The rounding of 00_scope.md R16. A quotient lies in a binade, where the 53-bit numbers are the multiples of
one unit in the last place; `roundNearest` answers the nearer of the two multiples around it, and every other 53-bit
number lies outside these two. -/

namespace Sys2Proof.Machine

theorem lt_two_pow_bitLength (n : Nat) : n < 2 ^ bitLength n := by
  unfold bitLength
  split
  case isTrue h => simp [h]
  case isFalse => exact Nat.lt_log2_self

theorem two_pow_bitLength_pred_le {n : Nat} (h : n ≠ 0) : 2 ^ (bitLength n - 1) ≤ n := by
  simpa [bitLength, h] using Nat.log2_self_le h

/-- `num / den` is `q` units of `2 ^ s` and the rest `r / den`, where `2 ^ s` is the unit in the last place: 1 below
2^53, and else the unit for which `q` has exactly 53 bits. -/
structure InBinade (num den s q r : Nat) : Prop where
  split : num = q * (den * 2 ^ s) + r
  rest_lt : r < den * 2 ^ s
  quot_lt : q < 2 ^ 53
  normal : s = 0 ∨ 2 ^ 52 ≤ q

/-- The split of the quotient that `roundNearest` computes. -/
theorem inBinade {num den : Nat} (hden : 0 < den) {s : Nat} (hs : s = bitLength (num / den) - 53) :
    InBinade num den s (num / (den * 2 ^ s)) (num % (den * 2 ^ s)) where
  split := (Nat.div_add_mod' ..).symm
  rest_lt := Nat.mod_lt _ (by positivity)
  quot_lt := by
    rw [← Nat.div_div_eq_div_mul]
    apply Nat.div_lt_of_lt_mul
    calc num / den < 2 ^ bitLength (num / den) := lt_two_pow_bitLength _
      _ ≤ 2 ^ (s + 53) := Nat.pow_le_pow_right (by decide) (by omega)
      _ = 2 ^ s * 2 ^ 53 := Nat.pow_add ..
  normal := by
    rcases Nat.eq_zero_or_pos s with h | h
    · exact .inl h
    · have hlen : bitLength (num / den) - 1 = 52 + s := by omega
      have hne : num / den ≠ 0 := by
        intro h0
        simp [h0, bitLength] at hs
        omega
      right
      rw [← Nat.div_div_eq_div_mul, Nat.le_div_iff_mul_le (by positivity), ← Nat.pow_add, ← hlen]
      exact two_pow_bitLength_pred_le hne

/-- The two answers of `roundNearest`: the multiple of the unit below the quotient or the one above it, on a tie the one
with the even factor. -/
theorem roundNearest_cases (num : Nat) {den : Nat} (hden : 0 < den) :
    ∃ s q r, InBinade num den s q r ∧
      ((roundNearest num den = q * 2 ^ s ∧ (2 * r < den * 2 ^ s ∨ 2 * r = den * 2 ^ s ∧ q % 2 = 0)) ∨
       (roundNearest num den = (q + 1) * 2 ^ s ∧ (den * 2 ^ s < 2 * r ∨ 2 * r = den * 2 ^ s ∧ q % 2 = 1))) := by
  refine ⟨_, _, _, inBinade hden rfl, ?_⟩
  simp only [roundNearest, Bool.or_eq_true, Bool.and_eq_true, decide_eq_true_eq]
  split
  case isTrue up => exact .inr ⟨rfl, up⟩
  case isFalse down => exact .inl ⟨rfl, by omega⟩

theorem representable_of_le {q : Nat} (h : q ≤ 2 ^ 53) (e : Nat) : Representable (q * 2 ^ e) := by
  rcases Nat.lt_or_eq_of_le h with hlt | rfl
  · exact ⟨q, e, hlt, rfl⟩
  · exact ⟨2 ^ 52, e + 1, by decide, by rw [Nat.pow_succ]; omega⟩

theorem mul_two_pow_lt {q e k : Nat} (hq : q < 2 ^ 53) (hk : 53 + e ≤ k) : q * 2 ^ e < 2 ^ k :=
  calc q * 2 ^ e < 2 ^ 53 * 2 ^ e := Nat.mul_lt_mul_of_pos_right hq (by positivity)
    _ = 2 ^ (53 + e) := (Nat.pow_add ..).symm
    _ ≤ 2 ^ k := Nat.pow_le_pow_right (by decide) hk

/-- The distance of `n` from `num / den`, times `den`. -/
def errorOf (num den n : Nat) : Nat := ((n * den : Int) - num).natAbs

namespace InBinade

variable {num den s q r n : Nat}

theorem den_ne_zero (b : InBinade num den s q r) : den ≠ 0 := by
  rintro rfl
  simpa using b.rest_lt

/-- No 53-bit number lies strictly between the two multiples of the unit around the quotient. -/
theorem le_or_ge_of_representable (b : InBinade num den s q r) (hn : Representable n) :
    n ≤ q * 2 ^ s ∨ (q + 1) * 2 ^ s ≤ n := by
  obtain ⟨a, e, ha, rfl⟩ := hn
  rcases Nat.lt_or_ge e s with hlt | hge
  · have hq : 2 ^ 52 ≤ q := b.normal.resolve_left (by omega)
    left
    calc a * 2 ^ e ≤ 2 ^ 53 * 2 ^ e := Nat.mul_le_mul_right _ ha.le
      _ = 2 ^ 52 * 2 ^ (e + 1) := by rw [Nat.pow_succ 2 e]; omega
      _ ≤ q * 2 ^ s := Nat.mul_le_mul hq (Nat.pow_le_pow_right (by decide) hlt)
  · obtain ⟨k, rfl⟩ := Nat.exists_eq_add_of_le hge
    have hmul : a * 2 ^ (s + k) = a * 2 ^ k * 2 ^ s := by rw [Nat.pow_add]; ring
    rw [hmul]
    rcases Nat.lt_or_ge q (a * 2 ^ k) with h | h
    · exact .inr (Nat.mul_le_mul_right _ h)
    · exact .inl (Nat.mul_le_mul_right _ h)

theorem errorOf_of_le (b : InBinade num den s q r) (h : n ≤ q * 2 ^ s) :
    errorOf num den n = r + (q * 2 ^ s - n) * den := by
  obtain ⟨d, hd⟩ := Nat.exists_eq_add_of_le h
  have hnum : num = n * den + d * den + r := by rw [b.split, ← Nat.add_mul, ← hd]; ring
  rw [hd, Nat.add_sub_cancel_left, errorOf, ← Nat.cast_mul, hnum]
  omega

theorem errorOf_of_ge (b : InBinade num den s q r) (h : (q + 1) * 2 ^ s ≤ n) :
    errorOf num den n = (den * 2 ^ s - r) + (n - (q + 1) * 2 ^ s) * den := by
  obtain ⟨d, rfl⟩ := Nat.exists_eq_add_of_le h
  have hprod : ((q + 1) * 2 ^ s + d) * den = q * (den * 2 ^ s) + den * 2 ^ s + d * den := by ring
  have hlt := b.rest_lt
  rw [Nat.add_sub_cancel_left, errorOf, b.split, ← Nat.cast_mul, hprod]
  omega

theorem errorOf_lower (b : InBinade num den s q r) : errorOf num den (q * 2 ^ s) = r := by
  simp [b.errorOf_of_le le_rfl]

theorem errorOf_upper (b : InBinade num den s q r) : errorOf num den ((q + 1) * 2 ^ s) = den * 2 ^ s - r := by
  simp [b.errorOf_of_ge le_rfl]

theorem eq_lower_of_errorOf_le (b : InBinade num den s q r) (h : n ≤ q * 2 ^ s) (he : errorOf num den n ≤ r) :
    n = q * 2 ^ s := by
  rw [b.errorOf_of_le h] at he
  have hgap : (q * 2 ^ s - n) * den = 0 := by omega
  have := (Nat.mul_eq_zero.mp hgap).resolve_right b.den_ne_zero
  omega

theorem eq_upper_of_errorOf_le (b : InBinade num den s q r) (h : (q + 1) * 2 ^ s ≤ n)
    (he : errorOf num den n ≤ den * 2 ^ s - r) : n = (q + 1) * 2 ^ s := by
  rw [b.errorOf_of_ge h] at he
  have hgap : (n - (q + 1) * 2 ^ s) * den = 0 := by omega
  have := (Nat.mul_eq_zero.mp hgap).resolve_right b.den_ne_zero
  omega

end InBinade

theorem roundNearest_representable (num : Nat) {den : Nat} (hden : 0 < den) :
    Representable (roundNearest num den) := by
  obtain ⟨s, q, r, b, ⟨hround, -⟩ | ⟨hround, -⟩⟩ := roundNearest_cases num hden
  · rw [hround]; exact representable_of_le b.quot_lt.le s
  · rw [hround]; exact representable_of_le b.quot_lt s

theorem errorOf_roundNearest_le {num den n : Nat} (hden : 0 < den) (hn : Representable n) :
    errorOf num den (roundNearest num den) ≤ errorOf num den n := by
  obtain ⟨s, q, r, b, hround⟩ := roundNearest_cases num hden
  have hround_le : errorOf num den (roundNearest num den) ≤ r ∧
      errorOf num den (roundNearest num den) ≤ den * 2 ^ s - r := by
    rcases hround with ⟨hround, hdown⟩ | ⟨hround, hup⟩
    · rw [hround, b.errorOf_lower]; omega
    · rw [hround, b.errorOf_upper]; omega
  rcases b.le_or_ge_of_representable hn with h | h
  · rw [b.errorOf_of_le h]; omega
  · rw [b.errorOf_of_ge h]; omega

/-- Another 53-bit number is equally near only where it is the other multiple of the unit around the quotient and the
rest is exactly half a unit. -/
theorem roundNearest_even_of_tie {num den n : Nat} (hden : 0 < den) (hn : Representable n)
    (hne : n ≠ roundNearest num den)
    (htie : errorOf num den (roundNearest num den) = errorOf num den n) :
    ∃ q e : Nat, q % 2 = 0 ∧ q ≤ 2 ^ 53 ∧ roundNearest num den = q * 2 ^ e ∧
      (n = (q + 1) * 2 ^ e ∨ n = (q - 1) * 2 ^ e) := by
  obtain ⟨s, q, r, b, hround⟩ := roundNearest_cases num hden
  rcases hround with ⟨hround, hdown⟩ | ⟨hround, hup⟩ <;> rw [hround] at hne htie ⊢
  · rw [b.errorOf_lower] at htie
    rcases b.le_or_ge_of_representable hn with h | h
    · exact absurd (b.eq_lower_of_errorOf_le h htie.ge) hne
    · obtain rfl := b.eq_upper_of_errorOf_le h (by omega)
      rw [b.errorOf_upper] at htie
      exact ⟨q, s, by omega, b.quot_lt.le, rfl, .inl rfl⟩
  · rw [b.errorOf_upper] at htie
    rcases b.le_or_ge_of_representable hn with h | h
    · obtain rfl := b.eq_lower_of_errorOf_le h (by omega)
      rw [b.errorOf_lower] at htie
      exact ⟨q + 1, s, by omega, b.quot_lt, rfl, .inr rfl⟩
    · exact absurd (b.eq_upper_of_errorOf_le h htie.ge) hne

theorem roundNearest_one_of_representable {m : Nat} (h : Representable m) : roundNearest m 1 = m := by
  have hle := errorOf_roundNearest_le (num := m) Nat.one_pos h
  unfold errorOf at hle
  omega

theorem ofRatio_one_of_representable (neg : Bool) {m : Nat} (h : Representable m) (hlt : m < 2 ^ 2098) :
    F64.ofRatio neg m 1 = .fin neg m := by
  simp only [F64.ofRatio, roundNearest_one_of_representable h, if_neg hlt.not_ge]

end Sys2Proof.Machine
end

section
open Sys2Proof Sys2Proof.Machine

/-- Settles O31: the answer is the nearer of the two 53-bit numbers around the quotient, and only the other of these two
can be as near. -/
theorem roundingIsToNearestEven : Obligations.RoundingIsToNearestEven := fun num _ hden =>
  ⟨roundNearest_representable num hden, fun _ hn => errorOf_roundNearest_le hden hn,
    fun _ hn hne htie => roundNearest_even_of_tie hden hn hne htie⟩

/-- Settles O32: an integer below 2^53, in units of 2^-1074, is itself a 53-bit number, so the rounding keeps it. -/
theorem integersConvertExactly : Obligations.IntegersConvertExactly := by
  intro n hn
  exact ofRatio_one_of_representable _ ⟨n.natAbs, 1074, hn, rfl⟩ (mul_two_pow_lt hn (by decide))
end

section
/-! SUPPORT. What every step keeps, said once: a property that reset has and that every command, every illegal word and
the taking of a response keep is kept by every step (30_encoding.md R90, R250). -/

namespace Sys2Proof.Machine

theorem acceptNext_keeps {P : State → Prop} (hexec : ∀ i s, P s → P (execNext i s))
    (hillegal : ∀ s, P s → P s.illegalCommand) (c : Command) {s : State} (h : P s) : P (acceptNext c s) := by
  unfold acceptNext
  split
  · exact hexec _ s h
  · exact hillegal s h

theorem edgeNext_keeps {P : State → Prop} (hexec : ∀ i s, P s → P (execNext i s))
    (hillegal : ∀ s, P s → P s.illegalCommand) (htaken : ∀ s, P s → P (s.setRsp none))
    {p : Pins} {s : State} (hreset : p.rst = true → P s.resetEdge) (h : P s) : P (edgeNext p s) := by
  unfold edgeNext
  split_ifs with hrst hrsp hready hvalid
  · exact hreset hrst
  · exact htaken s h
  · exact h
  · exact acceptNext_keeps hexec hillegal p.cmd h
  · exact h

/-- The induction principle of a step: what the host will drive is no register, so `P` must not depend on it. -/
theorem stepOf_keeps {P : State → Prop} (hexec : ∀ i s, P s → P (execNext i s))
    (hillegal : ∀ s, P s → P s.illegalCommand) (htaken : ∀ s, P s → P (s.setRsp none))
    (hinputs : ∀ s l, P s → P (s.setInputs l)) (hreset : P State.reset) {s : State} (h : P s) : P (stepOf s) := by
  rcases stepOf_cases s with ⟨-, hstay⟩ | ⟨p, rest, -, hedge⟩
  · rw [hstay]; exact h
  · rw [hedge]; exact edgeNext_keeps hexec hillegal htaken (fun _ => hinputs _ _ hreset) (hinputs s rest h)

theorem eq_stepOf_of_step {s t : State} (h : step s = .next t) : t = stepOf s := by
  rw [step_eq_next] at h
  injection h with h
  exact h.symm

/-- R250: the edge with `rst = 1` leaves the state after reset, with the host's coming edges. -/
theorem step_of_rst {s : State} {p : Pins} {rest : List Pins} (hin : s.inputs = p :: rest) (hrst : p.rst = true) :
    step s = .next (State.reset.setInputs rest) := by
  simp [step, nextEdge, hin, clockEdge, hrst, State.resetEdge]

end Sys2Proof.Machine
end

section
/-! SUPPORT. The numbers that the commands write to MAX, RESULT, SIZE, STUFF and DRAIN, and their ranges: the ceiling
(40_frame_begin.md R131), the budget (41_granule_allocator.md R146), and steps 2 to 4 of FEND (43_frame_end.md R172 to
R178). -/

namespace Sys2Proof.Machine

/-! The ceiling (R131). -/

theorem frameCeiling_range {len : Int} (h : 0 ≤ len) : 0 ≤ frameCeiling len ∧ frameCeiling len ≤ 4088 := by
  unfold frameCeiling
  split <;> omega

theorem toNat_frameCeiling_le (len : BitVec 16) : (BitVec.ofInt 13 (frameCeiling (uint len))).toNat ≤ 4088 := by
  have hrange := frameCeiling_range (uint_nonneg len)
  rw [BitVec.toNat_ofInt]
  omega

/-! The budget (R140, R146). -/

/-- The grant is negative only where SIZE is, and then it is 60 % of the deficit. -/
theorem le_grantedBits {size : Int} (h : -2147483648 ≤ size) (more : Int) :
    -1288490188 ≤ grantedBits size more := by
  unfold grantedBits
  rw [tdiv_eq_ite]
  split_ifs <;> omega

theorem grantedBits_le_extraBits (size max more : Int) : grantedBits size more ≤ extraBits size max more := by
  unfold extraBits
  dsimp only
  split <;> omega

theorem budget_range {share size : Int} (hshare : 0 ≤ share) (hsize : -2147483648 ≤ size) (max more : Int) :
    -1288490188 ≤ budget share size max more ∧ budget share size max more ≤ 4095 := by
  have hgrant := le_grantedBits hsize more
  have hextra := grantedBits_le_extraBits size max more
  unfold budget
  split <;> omega

theorem State.maxBits_range (s : State) (pe : Opnd) : -1288490188 ≤ s.maxBits pe ∧ s.maxBits pe ≤ 4095 :=
  budget_range s.share_range.1 (toInt32_range s.size).1 _ _

theorem State.toInt_maxBits (s : State) (pe : Opnd) : (BitVec.ofInt 32 (s.maxBits pe)).toInt = s.maxBits pe := by
  have hrange := s.maxBits_range pe
  exact toInt_ofInt32 (by omega) (by omega)

/-! Steps 2 and 3 of FEND (R172 to R174). -/

/-- What step 2 leaves is the lesser of the size and the ceiling. -/
theorem sub_overBits (size max : Int) : size - overBits size max = min size max := by
  unfold overBits
  split <;> omega

theorem settledSize_eq (size max : Int) : settledSize size max = min size max - (min size max).tmod 8 := by
  rw [settledSize, alignBits, sub_overBits]

/-- Steps 2 and 3 only move bits: what leaves SIZE is what is stuffed. -/
theorem settledSize_add_stuffingBits (size max : Int) : settledSize size max + stuffingBits size max = size := by
  unfold settledSize stuffingBits
  omega

theorem settledSize_le {max : Int} (h : 0 ≤ max) (size : Int) : settledSize size max ≤ max := by
  rw [settledSize_eq, tmod_eq_ite]
  split <;> omega

theorem settledSize_tmod_eight (size max : Int) : (settledSize size max).tmod 8 = 0 := by
  rw [settledSize_eq, ← Int.dvd_iff_tmod_eq_zero]
  exact Int.dvd_self_sub_tmod

/-- Aligning a negative size raises it, and aligning a positive one leaves it positive (R173). -/
theorem min_le_settledSize {max : Int} (h : 0 ≤ max) (size : Int) : min size 0 ≤ settledSize size max := by
  rw [settledSize_eq, tmod_eq_ite]
  split <;> omega

/-- Only the alignment of a negative size makes the count negative (R175). -/
theorem stuffingBits_range {max : Int} (h : 0 ≤ max) (size : Int) :
    -7 ≤ stuffingBits size max ∧ stuffingBits size max ≤ Max.max size 0 := by
  have hkept := settledSize_add_stuffingBits size max
  have hlow := min_le_settledSize h size
  refine ⟨?_, by omega⟩
  unfold stuffingBits overBits alignBits
  rw [tmod_eq_ite]
  split_ifs <;> omega

theorem State.settle_toInt_size (s : State) : s.settle.size.toInt = settledSize s.size.toInt (uint s.max) := by
  have hsize := toInt32_range s.size
  have hmax := s.max.isLt
  have hlow := min_le_settledSize (uint_nonneg s.max) s.size.toInt
  have hhigh := settledSize_le (uint_nonneg s.max) s.size.toInt
  refine toInt_ofInt32 (by omega) ?_
  unfold uint at *
  omega

theorem State.settle_toInt_stuff (s : State) : s.settle.stuff.toInt = stuffingBits s.size.toInt (uint s.max) := by
  have hsize := toInt32_range s.size
  have hrange := stuffingBits_range (uint_nonneg s.max) s.size.toInt
  exact toInt_ofInt32 (by omega) (by omega)

/-- Steps 2 and 3 write SIZE and STUFF only. -/
theorem State.settle_frame (s : State) :
    s.settle.max = s.max ∧ s.settle.mean = s.mean ∧ s.settle.stereo = s.stereo ∧ s.settle.gur = s.gur ∧
      s.settle.drain = s.drain ∧ s.settle.result = s.result ∧ s.settle.status = s.status ∧
      s.settle.phase = s.phase ∧ s.settle.slot = s.slot ∧ s.settle.rsp = s.rsp ∧ s.settle.inputs = s.inputs := by
  simp [State.settle]

/-! Step 4 of FEND (R175 to R178). -/

/-- Plan B leaves no more for DRAIN than there was to place. -/
theorem placeAll_snd_le (l : List Slot) (f : RecordFile) (n : Nat) : (placeAll l f n).2 ≤ n := by
  induction l generalizing f n with
  | nil => exact le_rfl
  | cons slot rest ih =>
    obtain ⟨g, c⟩ := slot
    rw [placeAll_cons]
    exact (ih _ _).trans (Nat.sub_le ..)

theorem State.place_lastPlan_eq_none_iff (s : State) (n : Int) : (s.place n).status.lastPlan = .none ↔ n ≤ 0 := by
  unfold State.place State.planA State.planB
  split_ifs <;> simp <;> omega

/-- DRAIN is as before or has what Plan B could not place (R178). -/
theorem State.place_drain_lt {s : State} (hdrain : s.drain.toNat < 2147483648) {n : Int} (hn : n ≤ 2147483647) :
    (s.place n).drain.toNat < 2147483648 := by
  unfold State.place
  split_ifs
  · exact hdrain
  · have hleft := placeAll_snd_le (slotsOf s.stereo) s.gur n.toNat
    simp only [State.planB, State.setPlan_drain, State.setDrain_drain, BitVec.toNat_ofNat]
    omega
  · exact hdrain

end Sys2Proof.Machine
end

section
/-! SUPPORT. Which registers a command leaves alone where its equation does not show it (43_frame_end.md R170,
44_host_access.md R196, R198). -/

namespace Sys2Proof.Machine

/-- FEND reads these registers and writes none of them. -/
theorem execNext_fend_frame (s : State) :
    (execNext .fend s).max = s.max ∧ (execNext .fend s).mean = s.mean ∧ (execNext .fend s).stereo = s.stereo ∧
      (execNext .fend s).result = s.result ∧ (execNext .fend s).slot = s.slot ∧
      (execNext .fend s).inputs = s.inputs := by
  simp [execNext_fend, State.place_frame, State.settle_frame, State.parityFix_frame]

/-- A command that only reads responds, or is illegal (R104). -/
theorem execNext_rdrec_cases (gr : Granule) (ch : Channel) (s : State) :
    (∃ w, execNext (.rdrec gr ch) s = s.respond w) ∨ execNext (.rdrec gr ch) s = s.illegalCommand := by
  rw [execNext_rdrec]
  split
  · exact .inr rfl
  · exact .inl ⟨_, rfl⟩

theorem execNext_rdreg_cases (sel : BitVec 4) (s : State) :
    (∃ w, execNext (.rdreg sel) s = s.respond w) ∨ execNext (.rdreg sel) s = s.illegalCommand := by
  rw [execNext_rdreg]
  split
  · exact .inl ⟨_, rfl⟩
  · exact .inr rfl

theorem execNext_wrrec_cases (gr : Granule) (ch : Channel) (val : Record) (s : State) :
    (∃ f, execNext (.wrrec gr ch val) s = (s.setGur f).respond 0) ∨
      execNext (.wrrec gr ch val) s = s.illegalCommand := by
  rw [execNext_wrrec]
  split
  · exact .inr rfl
  · exact .inl ⟨_, rfl⟩

end Sys2Proof.Machine
end

section
/-! SUPPORT. The invariant of the registers (10_state.md R47): each command and each part of a clock edge keeps it.
Every proof names the clauses whose registers are written; the others are those of the state before. -/

namespace Sys2Proof.Machine

theorem State.inv_reset : State.reset.Inv where
  maxLegal := by decide
  drainLegal := by decide
  stuffLegal := by decide
  resultLegal := by decide
  planMatches := by decide
  settledBetweenFrames := by decide

namespace State.Inv

variable {s : State}

/-- Steps 2 to 4 of FEND bring about the clauses on SIZE, STUFF and LAST_PLAN, whatever these were (R174, R175). -/
theorem of_settle_place (hmax : s.max.toNat ≤ 4088) (hdrain : s.drain.toNat < 2147483648)
    (hresult : -1288490188 ≤ s.result.toInt ∧ s.result.toInt ≤ 4095) :
    ((s.settle.place (stuffingBits s.size.toInt (uint s.max))).setPhase .awaitFrame).Inv := by
  have hcount := stuffingBits_range (uint_nonneg s.max) s.size.toInt
  rw [← s.settle_toInt_stuff] at hcount ⊢
  constructor
  case maxLegal => simpa [place_frame, settle_frame] using hmax
  case drainLegal => exact s.settle.place_drain_lt hdrain (toInt32_range _).2
  case stuffLegal => simpa [place_frame] using hcount.1
  case resultLegal => simpa [place_frame, settle_frame] using hresult
  case planMatches => simpa [place_frame] using s.settle.place_lastPlan_eq_none_iff s.settle.stuff.toInt
  case settledBetweenFrames =>
    have hmultiple := settledSize_tmod_eight s.size.toInt (uint s.max)
    have hceiling : settledSize s.size.toInt (uint s.max) ≤ s.max.toNat := settledSize_le (uint_nonneg s.max) _
    simpa [place_frame, settle_frame, settle_toInt_size] using And.intro hceiling hmultiple

theorem setInputs (h : s.Inv) (l : List Pins) : (s.setInputs l).Inv := { h with }

theorem setRsp (h : s.Inv) (r : Option Word) : (s.setRsp r).Inv := { h with }

theorem respond (h : s.Inv) (w : Word) : (s.respond w).Inv := { h with }

theorem setGur (h : s.Inv) (f : RecordFile) : (s.setGur f).Inv := { h with }

theorem setCfg (h : s.Inv) (mean : BitVec 16) (stereo : Bool) : (s.setCfg mean stereo).Inv := { h with }

/-- LAST_PLAN is no flag. -/
theorem flagIf (h : s.Inv) (f : StatusFlag) (b : Bool) : (s.flagIf f b).Inv :=
  { h with planMatches := by simpa using h.planMatches }

theorem illegalCommand (h : s.Inv) : s.illegalCommand.Inv := (h.flagIf .illegal true).respond 0

/-- FBEGIN writes MAX, and opens a frame. -/
theorem execNext_fbegin (h : s.Inv) (len : BitVec 16) : (execNext (.fbegin len) s).Inv :=
  { h with maxLegal := toNat_frameCeiling_le len, settledBetweenFrames := nofun }

/-- MAXBITS writes RESULT, inside a frame. -/
theorem execNext_maxbits (h : s.Inv) (pe : Opnd) : (execNext (.maxbits pe) s).Inv :=
  { h with
    resultLegal := by simpa [Machine.execNext_maxbits, s.toInt_maxBits pe] using s.maxBits_range pe
    settledBetweenFrames := nofun }

/-- ADJUST writes SIZE, inside a frame. -/
theorem execNext_adjust (h : s.Inv) (used : BitVec 12) : (execNext (.adjust used) s).Inv :=
  { h with settledBetweenFrames := nofun }

/-- CLRSIDE writes DRAIN. -/
theorem execNext_clrside (h : s.Inv) : (execNext .clrside s).Inv :=
  { h with drainLegal := by simp [Machine.execNext_clrside] }

/-- FEND writes SIZE, STUFF and LAST_PLAN, so that they meet their clauses whatever they were, and DRAIN (R174, R175,
R178). -/
theorem execNext_fend (h : s.Inv) : (execNext .fend s).Inv := by
  rw [Machine.execNext_fend]
  obtain ⟨hmax, -, -, -, hdrain, hresult, -⟩ := (s.flagIf .seqErr s.seqErrFend).parityFix_frame
  exact (of_settle_place (hmax ▸ h.maxLegal) (hdrain ▸ h.drainLegal) (hresult ▸ h.resultLegal)).respond 0

/-- Every command keeps the invariant: those not named above write only registers it does not speak of. -/
theorem execNext (h : s.Inv) (i : Instr) : (execNext i s).Inv := by
  cases i with
  | nop => exact h.respond 0
  | fbegin len => exact h.execNext_fbegin len
  | maxbits pe => exact h.execNext_maxbits pe
  | adjust used => exact h.execNext_adjust used
  | fend => exact h.execNext_fend
  | wrcfg mean stereo => exact ((h.flagIf _ _).setCfg mean stereo).respond 0
  | wrrec gr ch val =>
    obtain ⟨f, hnext⟩ | hnext := execNext_wrrec_cases gr ch val s <;> rw [hnext]
    · exact (h.setGur f).respond 0
    · exact h.illegalCommand
  | rdrec gr ch =>
    obtain ⟨w, hnext⟩ | hnext := execNext_rdrec_cases gr ch s <;> rw [hnext]
    · exact h.respond w
    · exact h.illegalCommand
  | rdreg sel =>
    obtain ⟨w, hnext⟩ | hnext := execNext_rdreg_cases sel s <;> rw [hnext]
    · exact h.respond w
    · exact h.illegalCommand
  | clrside => exact h.execNext_clrside

theorem stepOf (h : s.Inv) : (stepOf s).Inv :=
  stepOf_keeps (fun i _ hs => hs.execNext i) (fun _ hs => hs.illegalCommand) (fun _ hs => hs.setRsp none)
    (fun _ l hs => hs.setInputs l) inv_reset h

end State.Inv

end Sys2Proof.Machine
end

section
open Sys2Proof Sys2Proof.Machine

/-- Settles O18: reset has the invariant, and every command, legal or illegal, keeps it. -/
theorem stepKeepsInvariant : Obligations.StepKeepsInvariant := by
  intro s t hinv hstep
  rw [eq_stepOf_of_step hstep]
  exact hinv.stepOf

/-- Settles O22, command by command. -/
theorem registersHaveOnlyTheirWriters : Obligations.RegistersHaveOnlyTheirWriters := by
  intro i s
  refine ⟨execNext i s, exec_eq_next i s, ?_⟩
  cases i with
  | nop => simp [execNext_nop]
  | fbegin len => simp [execNext_fbegin, Instr.opcode]
  | maxbits pe => simp [execNext_maxbits, Instr.opcode]
  | adjust used => simp [execNext_adjust, Instr.opcode]
  | fend => simp [execNext_fend_frame, Instr.opcode]
  | wrcfg mean stereo => simp [execNext_wrcfg, Instr.opcode]
  | wrrec gr ch val =>
    obtain ⟨f, hnext⟩ | hnext := execNext_wrrec_cases gr ch val s <;> simp [hnext, Instr.opcode]
  | rdrec gr ch =>
    obtain ⟨w, hnext⟩ | hnext := execNext_rdrec_cases gr ch s <;> simp [hnext]
  | rdreg sel =>
    obtain ⟨w, hnext⟩ | hnext := execNext_rdreg_cases sel s <;> simp [hnext]
  | clrside => simp [execNext_clrside, Instr.opcode]

/-- Settles O8: the reset edge leaves `State.reset` with the rest of the host's edges. -/
theorem resetEdgeGivesResetValues : Obligations.ResetEdgeGivesResetValues :=
  ⟨fun _ _ rest hin hrst => ⟨State.reset.setInputs rest, step_of_rst hin hrst, rfl, rfl⟩, rfl⟩

/-- Settles O19, clause by clause at the reset values. -/
theorem resetHasInvariant : Obligations.ResetHasInvariant := State.inv_reset
end

section
/-! SUPPORT. What the commands and edges that change no register leave (20_memory.md R74): a legal RDREC or RDREG, an
edge without a command, and a step of another block (20_memory.md R83). -/

namespace Sys2Proof.Machine

/-- An RDREC in range is not the illegal command (R102, R104). -/
theorem execNext_rdrec_of_inRange {gr : Granule} {ch : Channel} {s : State}
    (h : (Instr.rdrec gr ch).inRange s.stereo = true) :
    execNext (.rdrec gr ch) s = s.respond ((s.gur.get gr ch).setWidth 32) := by
  have hlegal : s.recordIllegal ch = false := by
    cases ch with
    | c0 => rfl
    | c1 => simpa [Instr.inRange, State.recordIllegal] using h
  simp [execNext_rdrec, hlegal]

theorem execNext_rdreg_of_image {sel : BitVec 4} {s : State} {w : Word} (h : s.image sel = some w) :
    execNext (.rdreg sel) s = s.respond w := by
  simp [execNext_rdreg, h]

/-- No selector reads the response channel. -/
theorem State.image_setRsp (s : State) (r : Option Word) (sel : BitVec 4) : (s.setRsp r).image sel = s.image sel := rfl

/-- The word that a legal read answers does not depend on the response offered before it. -/
theorem exists_word_of_read {i : Instr} {s : State} (hop : i.opcode = .rdrec ∨ i.opcode = .rdreg)
    (hwf : i.wellFormed = true) (hrange : i.inRange s.stereo = true) :
    ∃ w, ∀ r, execNext i (s.setRsp r) = s.setRsp (some w) := by
  cases i with
  | rdrec gr ch =>
    exact ⟨(s.gur.get gr ch).setWidth 32, fun r => execNext_rdrec_of_inRange (s := s.setRsp r) hrange⟩
  | rdreg sel =>
    obtain ⟨w, hw⟩ := Option.isSome_iff_exists.mp (s.image_isSome sel (of_decide_eq_true hwf))
    exact ⟨w, fun r => execNext_rdreg_of_image ((s.image_setRsp r sel).trans hw)⟩
  | _ => simp [Instr.opcode] at hop

theorem step_of_inputs_nil {s : State} (hin : s.inputs = []) : step s = .next s := by
  simp [step, nextEdge, hin]

/-- R90: an edge that neither resets nor meets a response nor offers a command takes itself off the host's list. -/
theorem step_of_idle {s : State} {p : Pins} {rest : List Pins} (hin : s.inputs = p :: rest) (hrst : p.rst = false)
    (hrsp : s.rsp = none) (hvalid : p.cmdValid = false) : step s = .next (s.setInputs rest) := by
  simp [step, nextEdge, hin, clockEdge, hrst, hrsp, hvalid]

namespace System

theorem getElem?_stepAt_ne (y : System) {k j : Nat} (h : j ≠ k) : (y.stepAt k).blocks[j]? = y.blocks[j]? :=
  List.getElem?_modify_ne stepOf y.blocks h.symm

theorem getElem?_stepAt_self (y : System) (k : Nat) : (y.stepAt k).blocks[k]? = y.blocks[k]?.map stepOf :=
  List.getElem?_modify_eq stepOf k y.blocks

theorem length_stepAt (y : System) (k : Nat) : (y.stepAt k).blocks.length = y.blocks.length :=
  List.length_modify stepOf y.blocks k

theorem length_reset : System.reset.blocks.length = Config.ninst := List.length_replicate

end System

end Sys2Proof.Machine
end

section
open Sys2Proof Sys2Proof.Machine

/-- Settles O10: the idle edge and the empty list of edges, from the two step equations. -/
theorem idleEdgeChangesNothing : Obligations.IdleEdgeChangesNothing :=
  ⟨fun _ _ _ hin hrst hrsp hvalid => ⟨by simp [State.cmdReady, hrst, hrsp], step_of_idle hin hrst hrsp hvalid⟩,
    fun _ => step_of_inputs_nil⟩

/-- Settles O48: a read answers one word `w` from `s` and from `s` with `w` already offered. -/
theorem readsRepeat : Obligations.ReadsRepeat := by
  intro i s hop hwf hrange
  obtain ⟨w, hw⟩ := exists_word_of_read hop hwf hrange
  have hfirst : exec i s = .next (s.setRsp (some w)) := (exec_eq_next i s).trans (congrArg _ (hw s.rsp))
  have hsecond : exec i (s.setRsp (some w)) = .next (s.setRsp (some w)) :=
    (exec_eq_next i _).trans (congrArg _ (hw (some w)))
  exact ⟨s.setRsp (some w), hfirst, rfl, hsecond⟩

/-- Settles O50: `stepAt` is the list's `modify` at one position, and `NINST` is a successor. -/
theorem instancesShareNothing : Obligations.InstancesShareNothing := by
  refine ⟨fun y _ _ => y.getElem?_stepAt_ne, fun y k s t hblock hstep => ?_, System.length_stepAt, ?_,
    fun _ => List.eq_of_mem_replicate⟩
  · rw [System.getElem?_stepAt_self, hblock, eq_stepOf_of_step hstep, Option.map_some]
  · rw [System.length_reset]
    exact Nat.le_add_left 1 Config.ninstPred
end

section
/-! SUPPORT. The decoder and the encoder agree (30_encoding.md R92): a word decodes to a command exactly where it is
that command's encoding. Both sides are one condition on the word's fields, laid out as in R93 to R100. -/

namespace Sys2Proof

/-- A part of a word is `a` above `b` exactly where its upper part is `a` and its lower part is `b`. -/
theorem extractLsb'_eq_append_iff {w lo m n : Nat} (x : BitVec w) (a : BitVec m) (b : BitVec n) :
    x.extractLsb' lo (m + n) = a ++ b ↔ x.extractLsb' (lo + n) m = a ∧ x.extractLsb' lo n = b := by
  rw [← BitVec.extractLsb'_append_extractLsb'_eq_extractLsb' (start₂ := lo + n) rfl]
  constructor
  · intro h
    have hupper := congrArg (BitVec.extractLsb' n m) h
    have hlower := congrArg (BitVec.extractLsb' 0 n) h
    simp only [BitVec.extractLsb'_append_eq_left, BitVec.extractLsb'_append_eq_right] at hupper hlower
    exact ⟨hupper, hlower⟩
  · rintro ⟨rfl, rfl⟩
    rfl

theorem extractLsb'_eq_ofBool_append_iff {w lo n : Nat} (x : BitVec w) (b : Bool) (v : BitVec n) :
    x.extractLsb' lo (1 + n) = BitVec.ofBool b ++ v ↔ x.getLsbD (lo + n) = b ∧ x.extractLsb' lo n = v := by
  rw [extractLsb'_eq_append_iff, BitVec.eq_of_getLsbD_eq_iff]
  simp

theorem Granule.ofBit_eq_iff (b : Bool) (g : Granule) : Granule.ofBit b = g ↔ b = g.bit := by
  cases b <;> cases g <;> decide

theorem Channel.ofBit_eq_iff (b : Bool) (c : Channel) : Channel.ofBit b = c ↔ b = c.bit := by
  cases b <;> cases c <;> decide

/-- The field table of the command (R93 to R98, R100, R101): its operands and its reserved bits, as they stand in
`CW[27:0]`. -/
def Instr.LaidOutIn (cw : Word) : Instr → Prop
  | .nop | .maxbits _ | .fend | .clrside => field cw 0 28 = 0
  | .fbegin len => field cw 16 12 = 0 ∧ field cw 0 16 = len
  | .adjust used => field cw 12 16 = 0 ∧ field cw 0 12 = used
  | .wrcfg mean stereo => field cw 17 11 = 0 ∧ cw.getLsbD 16 = stereo ∧ field cw 0 16 = mean
  | .wrrec gr ch val =>
    field cw 14 14 = 0 ∧ Granule.ofBit (cw.getLsbD 13) = gr ∧ Channel.ofBit (cw.getLsbD 12) = ch ∧ field cw 0 12 = val
  | .rdrec gr ch =>
    field cw 14 14 = 0 ∧ Granule.ofBit (cw.getLsbD 13) = gr ∧ Channel.ofBit (cw.getLsbD 12) = ch ∧ field cw 0 12 = 0
  | .rdreg sel => field cw 4 24 = 0 ∧ field cw 0 4 = sel

theorem field_eq_recordPayload_iff (cw : Word) (gr : Granule) (ch : Channel) (val : Record) :
    field cw 0 28 = 0#14 ++ (BitVec.ofBool gr.bit ++ (BitVec.ofBool ch.bit ++ val)) ↔
      field cw 14 14 = 0 ∧ Granule.ofBit (cw.getLsbD 13) = gr ∧ Channel.ofBit (cw.getLsbD 12) = ch ∧
        field cw 0 12 = val := by
  rw [Granule.ofBit_eq_iff, Channel.ofBit_eq_iff]
  exact (extractLsb'_eq_append_iff cw 0#14 _).trans (and_congr_right'
    ((extractLsb'_eq_ofBool_append_iff cw gr.bit _).trans (and_congr_right'
      (extractLsb'_eq_ofBool_append_iff cw ch.bit val))))

theorem laidOutIn_iff (cw : Word) (i : Instr) : i.LaidOutIn cw ↔ field cw 0 28 = i.payload := by
  symm
  cases i with
  | nop => rfl
  | fbegin len => exact extractLsb'_eq_append_iff cw 0#12 len
  | maxbits pe => rfl
  | adjust used => exact extractLsb'_eq_append_iff cw 0#16 used
  | fend => rfl
  | wrcfg mean stereo =>
    exact (extractLsb'_eq_append_iff cw 0#11 _).trans
      (and_congr_right' (extractLsb'_eq_ofBool_append_iff cw stereo mean))
  | wrrec gr ch val => exact field_eq_recordPayload_iff cw gr ch val
  | rdrec gr ch => exact field_eq_recordPayload_iff cw gr ch 0
  | rdreg sel => exact extractLsb'_eq_append_iff cw 0#24 sel
  | clrside => rfl

theorem encode_eq_iff (cw : Word) (i : Instr) :
    (encode i).1 = cw ↔ field cw 28 4 = i.opcode.bits ∧ i.LaidOutIn cw := by
  have hword := extractLsb'_eq_append_iff (lo := 0) cw i.opcode.bits i.payload
  rw [BitVec.extractLsb'_eq_self] at hword
  rw [laidOutIn_iff, eq_comm]
  exact hword

theorem requireZero_eq_ok_iff (mnemonic : String) (ok : Bool) (i j : Instr) :
    requireZero mnemonic ok j = .ok i ↔ ok = true ∧ j = i := by
  cases ok <;> simp [requireZero]

/-- What the decoder reads from a word is laid out in it: the word's opcode, zero reserved bits, the operand fields. -/
theorem laidOutIn_of_decode {cw : Word} {opnd : Opnd} {i : Instr} (h : decode cw opnd = .ok i) :
    field cw 28 4 = i.opcode.bits ∧ i.LaidOutIn cw ∧ i.wellFormed = true ∧
      (i.opcode = .maxbits → i = .maxbits opnd) := by
  cases hop : Opcode.ofBits? (field cw 28 4) with
  | none => simp [decode, hop] at h
  | some op =>
    rw [← Opcode.bits_of_ofBits? hop]
    cases op <;> simp only [decode, hop, requireZero_eq_ok_iff, beq_iff_eq, Bool.and_eq_true] at h
    case nop | fend | clrside =>
      obtain ⟨hzero, rfl⟩ := h
      exact ⟨rfl, hzero, rfl, nofun⟩
    case maxbits =>
      obtain ⟨hzero, rfl⟩ := h
      exact ⟨rfl, hzero, rfl, fun _ => rfl⟩
    case fbegin | adjust =>
      obtain ⟨hzero, rfl⟩ := h
      exact ⟨rfl, ⟨hzero, rfl⟩, rfl, nofun⟩
    case wrcfg =>
      obtain ⟨hzero, rfl⟩ := h
      exact ⟨rfl, ⟨hzero, rfl, rfl⟩, rfl, nofun⟩
    case wrrec =>
      obtain ⟨hzero, rfl⟩ := h
      exact ⟨rfl, ⟨hzero, rfl, rfl, rfl⟩, rfl, nofun⟩
    case rdrec =>
      obtain ⟨⟨hzero, hlow⟩, rfl⟩ := h
      exact ⟨rfl, ⟨hzero, rfl, rfl, hlow⟩, rfl, nofun⟩
    case rdreg =>
      split_ifs at h with hzero hsel
      obtain rfl := Except.ok.inj h
      exact ⟨rfl, ⟨hzero, rfl⟩, decide_eq_true hsel, nofun⟩

theorem decode_of_laidOutIn {cw : Word} {opnd : Opnd} {i : Instr}
    (hop : Opcode.ofBits? (field cw 28 4) = some i.opcode) (hlay : i.LaidOutIn cw) (hwf : i.wellFormed = true)
    (hpe : i.opcode = .maxbits → i = .maxbits opnd) : decode cw opnd = .ok i := by
  cases i <;> simp only [Instr.opcode] at hop
  case nop | fend | clrside => simp [decode, hop, requireZero, show field cw 0 28 = 0 from hlay]
  case maxbits pe => simp [decode, hop, requireZero, show field cw 0 28 = 0 from hlay, hpe rfl]
  case fbegin | adjust =>
    obtain ⟨hzero, rfl⟩ := hlay
    simp [decode, hop, requireZero, hzero]
  case wrcfg =>
    obtain ⟨hzero, rfl, rfl⟩ := hlay
    simp [decode, hop, requireZero, hzero]
  case wrrec =>
    obtain ⟨hzero, rfl, rfl, rfl⟩ := hlay
    simp [decode, hop, requireZero, hzero]
  case rdrec =>
    obtain ⟨hzero, rfl, rfl, hlow⟩ := hlay
    simp [decode, hop, requireZero, hzero, hlow]
  case rdreg =>
    obtain ⟨hzero, rfl⟩ := hlay
    simp [decode, hop, hzero, of_decide_eq_true hwf]

theorem eq_maxbits_of_opcode {i : Instr} (h : i.opcode = .maxbits) : i = .maxbits i.operand := by
  cases i with
  | maxbits pe => rfl
  | _ => cases h

/-- R92: the decoder reads a command exactly from that command's encoding; a MAXBITS has the operand that is on
OPND. -/
theorem decode_eq_ok_iff (cw : Word) (opnd : Opnd) (i : Instr) :
    decode cw opnd = .ok i ↔
      (encode i).1 = cw ∧ i.wellFormed = true ∧ (i.opcode = .maxbits → i = .maxbits opnd) := by
  constructor
  · intro h
    obtain ⟨hop, hlay, hrest⟩ := laidOutIn_of_decode h
    exact ⟨(encode_eq_iff cw i).mpr ⟨hop, hlay⟩, hrest⟩
  · rintro ⟨rfl, hwf, hpe⟩
    obtain ⟨-, hlay⟩ := (encode_eq_iff _ i).mp rfl
    exact decode_of_laidOutIn (Laws.EncodedOpcode.field_opcode _ _) hlay hwf hpe

theorem decode_of_encode_eq {i : Instr} {cw : Word} {opnd : Opnd} (hwf : i.wellFormed = true)
    (h : encode i = (cw, opnd)) : decode cw opnd = .ok i := by
  obtain ⟨hword, rfl⟩ := Prod.ext_iff.mp h
  exact (decode_eq_ok_iff cw _ i).mpr ⟨hword, hwf, eq_maxbits_of_opcode⟩

end Sys2Proof
end

section
open Sys2Proof Sys2Proof.Machine

/-- Settles O1: a command's own encoding is the word it is read from, and a MAXBITS drives its operand on OPND. -/
theorem decodeOfEncode : Obligations.DecodeOfEncode := fun _ hwf => decode_of_encode_eq hwf rfl

/-- Settles O2: the converse reading of the same equivalence. -/
theorem encodeOfDecode : Obligations.EncodeOfDecode := fun cw opnd i => (decode_eq_ok_iff cw opnd i).mp
end

section
/-! SUPPORT. Legality (30_encoding.md R102, R104): the rule's test accepts exactly the words that decode to a command
whose record index is in range, and every other word is the illegal command. -/

namespace Sys2Proof

theorem Opcode.ofBits?_eq_none_iff (b : BitVec 4) : Opcode.ofBits? b = none ↔ 10 ≤ b.toNat := by
  revert b; decide

theorem Channel.ofBit_eq_c0_iff (b : Bool) : Channel.ofBit b = .c0 ↔ b = false := Channel.ofBit_eq_iff b .c0

theorem legal_of_reservedOpcode {cw : Word} (hop : Opcode.ofBits? (field cw 28 4) = none) (stereo : Bool) :
    legal cw stereo = false := by
  have hreserved := (Opcode.ofBits?_eq_none_iff _).mp hop
  unfold legal
  split
  case h_11 => rfl
  all_goals omega

/-- R102: the rule's test and the decoder with the range check accept the same words. -/
theorem legal_iff (cw : Word) (opnd : Opnd) (stereo : Bool) :
    legal cw stereo = true ↔ ∃ i, decode cw opnd = .ok i ∧ i.inRange stereo = true := by
  cases hop : Opcode.ofBits? (field cw 28 4) with
  | none => simp [legal_of_reservedOpcode hop, decode, hop]
  | some op =>
    unfold legal
    rw [← Opcode.bits_of_ofBits? hop]
    cases op <;>
      simp only [decode, hop, requireZero_eq_ok_iff, Opcode.bits, BitVec.toNat_ofNat, Nat.reducePow, Nat.reduceMod]
    case wrrec => simp [Instr.inRange, Channel.ofBit_eq_c0_iff]
    case rdrec => simp [Instr.inRange, Channel.ofBit_eq_c0_iff, and_assoc]
    case rdreg => split_ifs <;> simp_all [Instr.inRange]
    all_goals simp [Instr.inRange]

namespace Machine

theorem State.recordIllegal_eq (s : State) (ch : Channel) :
    s.recordIllegal ch = !(decide (ch = .c0) || s.stereo) := by
  cases ch <;> simp [State.recordIllegal]

/-- R104: a record index outside the configured table makes the command the illegal command. -/
theorem execNext_of_not_inRange {i : Instr} {s : State} (h : i.inRange s.stereo = false) :
    execNext i s = s.illegalCommand := by
  cases i with
  | wrrec gr ch val =>
    have hillegal : s.recordIllegal ch = true := (s.recordIllegal_eq ch).trans (congrArg not h)
    simp [execNext_wrrec, hillegal]
  | rdrec gr ch =>
    have hillegal : s.recordIllegal ch = true := (s.recordIllegal_eq ch).trans (congrArg not h)
    simp [execNext_rdrec, hillegal]
  | _ => cases h

theorem execNext_wrrec_of_inRange {gr : Granule} {ch : Channel} {val : Record} {s : State}
    (h : (Instr.wrrec gr ch val).inRange s.stereo = true) :
    execNext (.wrrec gr ch val) s = (s.setGur (s.gur.set gr ch val)).respond 0 := by
  have hlegal : s.recordIllegal ch = false := (s.recordIllegal_eq ch).trans (congrArg not h)
  simp [execNext_wrrec, hlegal]

theorem accept_of_decode {c : Command} {i : Instr} (h : decode c.cw c.opnd = .ok i) (s : State) :
    accept c s = exec i s := by
  simp only [accept, h]

theorem accept_of_not_legal {c : Command} {s : State} (h : legal c.cw s.stereo = false) :
    accept c s = .next s.illegalCommand := by
  cases hdec : decode c.cw c.opnd with
  | error r => simp only [accept, hdec]
  | ok i =>
    have hrange : i.inRange s.stereo = false := by
      by_contra hne
      have hlegal := (legal_iff c.cw c.opnd s.stereo).mpr ⟨i, hdec, by simpa using hne⟩
      simp [h] at hlegal
    rw [accept_of_decode hdec, exec_eq_next, execNext_of_not_inRange hrange]

end Machine
end Sys2Proof
end

section
open Sys2Proof Sys2Proof.Machine

/-- Settles O3: a legal word is one command's encoding, with that command's opcode, and is executed as it. -/
theorem acceptFollowsLegality : Obligations.AcceptFollowsLegality := by
  intro cw opnd s
  constructor
  · intro h
    obtain ⟨i, hdec, hrange⟩ := (legal_iff cw opnd s.stereo).mp h
    obtain ⟨hop, -⟩ := laidOutIn_of_decode hdec
    exact ⟨i, hdec, hrange, hop.symm, accept_of_decode (c := ⟨cw, opnd⟩) hdec s⟩
  · intro h
    rw [accept_of_not_legal (c := ⟨cw, opnd⟩) h, State.illegalCommand_eq]

/-- Settles O13, command by command. -/
theorem responseWords : Obligations.ResponseWords := by
  refine ⟨fun i s hwf hrange => ⟨execNext i s, exec_eq_next i s, ?_⟩,
    fun c s h => ⟨s.illegalCommand, accept_of_not_legal h, rfl⟩⟩
  cases i with
  | nop => simp [execNext_nop]
  | fbegin len => simp [execNext_fbegin]
  | maxbits pe => simp [execNext_maxbits]
  | adjust used => simp [execNext_adjust]
  | fend => simp [execNext_fend]
  | wrcfg mean stereo => simp [execNext_wrcfg]
  | wrrec gr ch val => simp [execNext_wrrec_of_inRange hrange]
  | rdrec gr ch => simp [execNext_rdrec_of_inRange hrange]
  | rdreg sel =>
    obtain ⟨w, hw⟩ := Option.isSome_iff_exists.mp (s.image_isSome sel (of_decide_eq_true hwf))
    simp [execNext_rdreg_of_image hw, hw]
  | clrside => simp [execNext_clrside]
end

section
/-! SUPPORT. The ports refine the run of commands (30_encoding.md R90, R265): no command reads or writes what the host
will drive, each command leaves a response, and so one offer and one take are one command of a run. -/

namespace Sys2Proof.Machine

/-! What the host will drive has no part in a command. -/

theorem State.parityFix_setInputs (s : State) (l : List Pins) :
    (s.setInputs l).parityFix = s.parityFix.setInputs l := by
  unfold State.parityFix
  rw [apply_ite (State.setInputs · l)]
  rfl

theorem State.place_setInputs (s : State) (l : List Pins) (n : Int) :
    (s.setInputs l).place n = (s.place n).setInputs l := by
  unfold State.place
  rw [apply_ite (State.setInputs · l), apply_ite (State.setInputs · l)]
  rfl

theorem execNext_fend_setInputs (s : State) (l : List Pins) :
    execNext .fend (s.setInputs l) = (execNext .fend s).setInputs l := by
  have hfix : ((s.setInputs l).flagIf .seqErr (s.setInputs l).seqErrFend).parityFix =
      (s.flagIf .seqErr s.seqErrFend).parityFix.setInputs l := State.parityFix_setInputs (s.flagIf _ _) l
  rw [execNext_fend, execNext_fend, hfix]
  exact congrArg (fun t : State => (t.setPhase .awaitFrame).respond 0)
    ((s.flagIf .seqErr s.seqErrFend).parityFix.settle.place_setInputs l _)

theorem execNext_setInputs (i : Instr) (s : State) (l : List Pins) :
    execNext i (s.setInputs l) = (execNext i s).setInputs l := by
  cases i with
  | nop => rfl
  | fbegin len => rfl
  | maxbits pe => rfl
  | adjust used => rfl
  | fend => exact execNext_fend_setInputs s l
  | wrcfg mean stereo => rfl
  | wrrec gr ch val =>
    rw [execNext_wrrec, execNext_wrrec, apply_ite (State.setInputs · l)]
    rfl
  | rdrec gr ch =>
    rw [execNext_rdrec, execNext_rdrec, apply_ite (State.setInputs · l)]
    rfl
  | rdreg sel =>
    have himage : (s.setInputs l).image sel = s.image sel := rfl
    rw [execNext_rdreg, execNext_rdreg, himage]
    cases s.image sel <;> rfl
  | clrside => rfl

theorem acceptNext_setInputs (c : Command) (s : State) (l : List Pins) :
    acceptNext c (s.setInputs l) = (acceptNext c s).setInputs l := by
  unfold acceptNext
  cases decode c.cw c.opnd with
  | ok i => exact execNext_setInputs i s l
  | error _ => rfl

/-! Every command leaves a response (R90). -/

theorem execNext_rsp_isSome (i : Instr) (s : State) : (execNext i s).rsp.isSome = true := by
  cases i with
  | wrrec gr ch val => obtain ⟨f, h⟩ | h := execNext_wrrec_cases gr ch val s <;> rw [h] <;> rfl
  | rdrec gr ch => obtain ⟨w, h⟩ | h := execNext_rdrec_cases gr ch s <;> rw [h] <;> rfl
  | rdreg sel => obtain ⟨w, h⟩ | h := execNext_rdreg_cases sel s <;> rw [h] <;> rfl
  | _ => rfl

theorem acceptNext_rsp_isSome (c : Command) (s : State) : (acceptNext c s).rsp.isSome = true := by
  unfold acceptNext
  split
  · exact execNext_rsp_isSome _ s
  · rfl

/-! The edges of an offer and of a take. -/

section
variable {s : State} {p : Pins} {rest : List Pins} (hin : s.inputs = p :: rest) (hrst : p.rst = false)
include hin hrst

theorem step_of_offer (hrsp : s.rsp = none) (hvalid : p.cmdValid = true) :
    step s = accept p.cmd (s.setInputs rest) := by
  simp [step, nextEdge, hin, clockEdge, hrst, hrsp, hvalid]

theorem step_of_rsp (hrsp : s.rsp.isSome = true) :
    step s = .next ((s.setInputs rest).setRsp (if p.rspReady then none else s.rsp)) := by
  simp only [step, nextEdge, hin, clockEdge, hrst, State.setInputs_rsp, hrsp]
  cases p.rspReady <;> rfl

end

theorem issue_eq_next (c : Command) (s : State) : s.issue c = .next ((acceptNext c s).setRsp none) := by
  simp only [State.issue, accept_eq_next]

theorem step_offer {s : State} (c : Command) (hrsp : s.rsp = none) (l : List Pins) :
    step (s.setInputs (Pins.offer c :: l)) = .next ((acceptNext c s).setInputs l) := by
  rw [step_of_offer (s := s.setInputs _) rfl rfl hrsp rfl, accept_eq_next]
  exact congrArg _ (acceptNext_setInputs c s l)

theorem step_take {s : State} (hrsp : s.rsp.isSome = true) (l : List Pins) :
    step (s.setInputs (Pins.take :: l)) = .next ((s.setRsp none).setInputs l) :=
  step_of_rsp (s := s.setInputs _) rfl rfl hrsp

theorem run_succ {s t : State} (h : step s = .next t) (k : Nat) : core.run (k + 1) s = core.run k t := by
  have hcore : core.step s = .next t := h
  simp only [Host.Core.run, hcore]

/-- The edges of a host that offers each command and then takes its response. -/
def Pins.drive (cs : List Command) : List Pins := cs.flatMap fun c => [Pins.offer c, Pins.take]

theorem run_drive (rest : List Pins) (cs : List Command) {s t : State} (hrsp : s.rsp = none)
    (hrun : s.runSession cs = .next t) :
    core.run (2 * cs.length) (s.setInputs (Pins.drive cs ++ rest)) = .next (t.setInputs rest) := by
  induction cs generalizing s with
  | nil => cases hrun; rfl
  | cons c cs ih =>
    simp only [State.runSession, issue_eq_next] at hrun
    calc core.run (2 * cs.length + 2) (s.setInputs (Pins.offer c :: Pins.take :: (Pins.drive cs ++ rest)))
      _ = core.run (2 * cs.length + 1) ((acceptNext c s).setInputs (Pins.take :: (Pins.drive cs ++ rest))) :=
        run_succ (step_offer c hrsp _) _
      _ = core.run (2 * cs.length) (((acceptNext c s).setRsp none).setInputs (Pins.drive cs ++ rest)) :=
        run_succ (step_take (acceptNext_rsp_isSome c s) _) _
      _ = .next (t.setInputs rest) := ih rfl hrun

end Sys2Proof.Machine
end

section
open Sys2Proof Sys2Proof.Machine

/-- Settles O7: the edge of an offer accepts the command, and accepting a decoded command is executing it. -/
theorem stepRunsTheOfferedCommand : Obligations.StepRunsTheOfferedCommand := by
  intro s p rest i hin hrst hrsp hvalid hdec
  rw [step_of_offer hin hrst hrsp hvalid, accept_of_decode hdec]
  rfl

/-- Settles O9: the edge only decides whether the response stays. -/
theorem responseHeldUntilTaken : Obligations.ResponseHeldUntilTaken := by
  intro s p rest w hin hrst hrsp
  have hsome : s.rsp.isSome = true := by rw [hrsp]; rfl
  refine ⟨by simp [State.cmdReady, hrsp], by simp [State.rspValid, hrst, hrsp], ?_⟩
  rw [step_of_rsp hin hrst hsome, hrsp]
  rfl

/-- Settles O12: by induction on the commands, two steps for each. -/
theorem portsRefineSession : Obligations.PortsRefineSession := fun cs _ _ rest => run_drive rest cs
end

section
/-! SUPPORT. The assembler (30_encoding.md R107): the operands that fit, and the word of each command with a numeric
operand as the sum of its fields. -/

namespace Sys2Proof.Machine

section
variable {α : Type} {r : Option α}

theorem fitOperand_bind {w n : Nat} {f : BitVec w → Option α} (h : n < 2 ^ w → f (BitVec.ofNat w n) = r) :
    (fitOperand w n).bind f = if n < 2 ^ w then r else none := by
  unfold fitOperand
  split
  case isTrue hfits => exact h hfits
  case isFalse => rfl

theorem bitOperand_bind {n : Nat} {f : Bool → Option α} (h : n < 2 → f (decide (n = 1)) = r) :
    (bitOperand n).bind f = if n < 2 then r else none := by
  match n with
  | 0 => exact h (by decide)
  | 1 => exact h (by decide)
  | n + 2 => simp [bitOperand]

end

theorem toNat_decide_eq_one {n : Nat} (h : n < 2) : (decide (n = 1)).toNat = n := by
  interval_cases n <;> rfl

/-- A command word as the sum of its opcode and its operands. -/
theorem Command.ofInstr_eq {i : Instr} {n : Nat} (h : i.opcode.bits.toNat * 2 ^ 28 + i.payload.toNat = n) :
    Command.ofInstr i = { cw := BitVec.ofNat 32 n, opnd := i.operand } := by
  rw [← h, ← encode_toNat, BitVec.ofNat_toNat, BitVec.setWidth_eq]
  rfl

theorem ofInstr_fbegin {len : Nat} (h : len < 65536) :
    Command.ofInstr (.fbegin (BitVec.ofNat 16 len)) = { cw := BitVec.ofNat 32 (0x10000000 + len), opnd := 0 } :=
  Command.ofInstr_eq (by simp [payload_toNat, Instr.opcode, Opcode.bits]; omega)

theorem ofInstr_adjust {used : Nat} (h : used < 4096) :
    Command.ofInstr (.adjust (BitVec.ofNat 12 used)) = { cw := BitVec.ofNat 32 (0x30000000 + used), opnd := 0 } :=
  Command.ofInstr_eq (by simp [payload_toNat, Instr.opcode, Opcode.bits]; omega)

theorem ofInstr_wrcfg {mean : Nat} (h : mean < 65536) (stereo : Bool) :
    Command.ofInstr (.wrcfg (BitVec.ofNat 16 mean) stereo) =
      { cw := BitVec.ofNat 32 (0x50000000 + 65536 * stereo.toNat + mean), opnd := 0 } :=
  Command.ofInstr_eq (by simp [payload_toNat, Instr.opcode, Opcode.bits]; omega)

theorem ofInstr_wrrec {gr ch val : Nat} (hgr : gr < 2) (hch : ch < 2) (hval : val < 4096) :
    Command.ofInstr (.wrrec (Granule.ofBit (decide (gr = 1))) (Channel.ofBit (decide (ch = 1))) (BitVec.ofNat 12 val)) =
      { cw := BitVec.ofNat 32 (0x60000000 + 8192 * gr + 4096 * ch + val), opnd := 0 } :=
  Command.ofInstr_eq (by
    simp [payload_toNat, Granule.bit_ofBit, Channel.bit_ofBit, toNat_decide_eq_one hgr, toNat_decide_eq_one hch,
      Instr.opcode, Opcode.bits]
    omega)

theorem ofInstr_rdrec {gr ch : Nat} (hgr : gr < 2) (hch : ch < 2) :
    Command.ofInstr (.rdrec (Granule.ofBit (decide (gr = 1))) (Channel.ofBit (decide (ch = 1)))) =
      { cw := BitVec.ofNat 32 (0x70000000 + 8192 * gr + 4096 * ch), opnd := 0 } :=
  Command.ofInstr_eq (by
    simp [payload_toNat, Granule.bit_ofBit, Channel.bit_ofBit, toNat_decide_eq_one hgr, toNat_decide_eq_one hch,
      Instr.opcode, Opcode.bits]
    omega)

theorem ofInstr_rdreg {sel : Nat} (h : sel ≤ 8) :
    Command.ofInstr (.rdreg (BitVec.ofNat 4 sel)) = { cw := BitVec.ofNat 32 (0x80000000 + sel), opnd := 0 } :=
  Command.ofInstr_eq (by simp [payload_toNat, Instr.opcode, Opcode.bits]; omega)

end Sys2Proof.Machine
end

section
open Sys2Proof Sys2Proof.Machine

/-- Settles O6: an operand that fits is in the word as it was written, field by field. -/
theorem assemblerNeverTruncates : Obligations.AssemblerNeverTruncates := by
  refine ⟨fun len => ?fbegin, fun used => ?adjust, fun mean stereo => ?wrcfg, fun gr ch val => ?wrrec,
    fun gr ch => ?rdrec, fun sel => ?rdreg, fun w => fitOperand_bind fun _ => rfl⟩
  case fbegin => exact fitOperand_bind fun h => by rw [ofInstr_fbegin h]
  case adjust => exact fitOperand_bind fun h => by rw [ofInstr_adjust h]
  case wrcfg => exact fitOperand_bind fun h => by rw [ofInstr_wrcfg h]
  case wrrec =>
    rw [ite_and, ite_and]
    exact bitOperand_bind fun hgr => bitOperand_bind fun hch => fitOperand_bind fun hval => by
      rw [ofInstr_wrrec hgr hch hval]
  case rdrec =>
    rw [ite_and]
    exact bitOperand_bind fun hgr => bitOperand_bind fun hch => by rw [ofInstr_rdrec hgr hch]
  case rdreg => exact ite_congr rfl (fun h => by rw [ofInstr_rdreg h]) fun _ => rfl

/-- Settles O5: where the number fits, both sides are the two commands, and else both are refused. -/
theorem pseudoInstructionsExpand : Obligations.PseudoInstructionsExpand := by
  refine ⟨fun pe used => ?granule, fun len => ?newframe, rfl, rfl, rfl, rfl⟩
  case granule => simp [AsmLine.assemble, Option.map_bind]
  case newframe => simp [AsmLine.assemble, Option.map_bind]

/-- Settles O4: each word is the encoding of its command, so O1 reads it back; the texts are assembled as they stand. -/
theorem decodesTheSpecsExamples : Obligations.DecodesTheSpecsExamples := by
  refine ⟨decode_of_encode_eq rfl rfl, decode_of_encode_eq rfl rfl, decode_of_encode_eq rfl rfl,
    decode_of_encode_eq rfl rfl, decode_of_encode_eq rfl rfl, decode_of_encode_eq rfl rfl,
    decode_of_encode_eq rfl rfl, ?_⟩
  decide +kernel
end

section
/-! SUPPORT. The bits of a binary64 value (30_encoding.md R94): a word is its sign, its exponent and its fraction, and
`toBits` finds these three again in the value. -/

namespace Sys2Proof.Machine

/-- A 64-bit word is its sign bit above its exponent field above its fraction field. -/
theorem sign_append_exponent_append_fraction (bits : BitVec 64) :
    BitVec.ofBool (bits.getLsbD 63) ++ (bits.extractLsb' 52 11 ++ bits.extractLsb' 0 52) = bits := by
  have hlow :=
    (extractLsb'_eq_append_iff (lo := 0) bits (bits.extractLsb' 52 11) (bits.extractLsb' 0 52)).mpr ⟨rfl, rfl⟩
  have hword := (extractLsb'_eq_ofBool_append_iff (lo := 0) bits _ (bits.extractLsb' 0 63)).mpr ⟨rfl, rfl⟩
  rw [← hlow]
  exact hword.symm.trans BitVec.extractLsb'_eq_self

section
variable {frac : Nat} (h : frac < 2 ^ 52)
include h

theorem bitLength_normal (k : Nat) : bitLength ((2 ^ 52 + frac) * 2 ^ k) = 53 + k := by
  have hne : (2 ^ 52 + frac) * 2 ^ k ≠ 0 := by positivity
  have hlog : ((2 ^ 52 + frac) * 2 ^ k).log2 = 52 + k := by
    rw [Nat.log2_eq_iff hne, Nat.pow_add, show 52 + k + 1 = 53 + k by omega, Nat.pow_add]
    exact ⟨Nat.mul_le_mul_right _ (by omega), Nat.mul_lt_mul_of_pos_right (by omega) (by positivity)⟩
  rw [bitLength, if_neg hne, hlog]
  omega

theorem toBits_subnormal (neg : Bool) :
    (F64.fin neg frac).toBits = BitVec.ofBool neg ++ (0#11 ++ BitVec.ofNat 52 frac) := if_pos h

theorem toBits_normal (neg : Bool) {e : Nat} (he : e ≠ 0) :
    (F64.fin neg ((2 ^ 52 + frac) * 2 ^ (e - 1))).toBits =
      BitVec.ofBool neg ++ (BitVec.ofNat 11 e ++ BitVec.ofNat 52 frac) := by
  have hlarge : 2 ^ 52 ≤ (2 ^ 52 + frac) * 2 ^ (e - 1) :=
    calc 2 ^ 52 ≤ 2 ^ 52 + frac := Nat.le_add_right ..
      _ ≤ (2 ^ 52 + frac) * 2 ^ (e - 1) := Nat.le_mul_of_pos_right _ (Nat.two_pow_pos _)
  have hexp : 53 + (e - 1) - 52 = e := by omega
  have hfrac : BitVec.ofNat 52 (2 ^ 52 + frac) = BitVec.ofNat 52 frac :=
    BitVec.eq_of_toNat_eq (by simp)
  simp only [F64.toBits, if_neg hlarge.not_gt, bitLength_normal h, hexp, Nat.mul_div_cancel _ (Nat.two_pow_pos _),
    hfrac]

end

/-- The value finds its three fields again, be it an infinity, subnormal or zero, or normal. -/
theorem toBits_f64 (bits : BitVec 64) (hnan : (f64 bits).isNaN = false) :
    (f64 bits).toBits =
      BitVec.ofBool (bits.getLsbD 63) ++ (bits.extractLsb' 52 11 ++ bits.extractLsb' 0 52) := by
  unfold f64 at hnan ⊢
  generalize bits.getLsbD 63 = neg at hnan ⊢
  generalize bits.extractLsb' 52 11 = exp at hnan ⊢
  generalize bits.extractLsb' 0 52 = frac at hnan ⊢
  dsimp only at hnan ⊢
  split_ifs at hnan ⊢ with hmax hinf hsub
  · obtain rfl : exp = 2047#11 := BitVec.eq_of_toNat_eq hmax
    obtain rfl : frac = 0#52 := BitVec.eq_of_toNat_eq hinf
    rfl
  · cases hnan
  · obtain rfl : exp = 0#11 := BitVec.eq_of_toNat_eq hsub
    rw [toBits_subnormal frac.isLt, BitVec.ofNat_toNat, BitVec.setWidth_eq]
  · rw [toBits_normal frac.isLt neg hsub]
    simp only [BitVec.ofNat_toNat, BitVec.setWidth_eq]

end Sys2Proof.Machine
end

section
open Sys2Proof Sys2Proof.Machine

/-- Settles O33: the value has the operand's sign, exponent and fraction, and these are the operand. -/
theorem entropyBitsAreKept : Obligations.EntropyBitsAreKept := fun pe hnan =>
  (toBits_f64 pe hnan).trans (sign_append_exponent_append_fraction pe)
end

section
/-! SUPPORT. The word of FBEGIN (30_encoding.md R93) and the value it writes to MAX (40_frame_begin.md R131). -/

namespace Sys2Proof

/-- A command other than MAXBITS decodes from its word whatever is on OPND. -/
theorem decode_of_encode_fst_eq {i : Instr} {cw : Word} (hwf : i.wellFormed = true) (hop : i.opcode ≠ .maxbits)
    (h : (encode i).1 = cw) (opnd : Opnd) : decode cw opnd = .ok i :=
  (decode_eq_ok_iff cw opnd i).mpr ⟨h, hwf, fun hmaxbits => absurd hmaxbits hop⟩

theorem encode_fbegin_fst (len : BitVec 16) : (encode (.fbegin len)).1 = 0x1000#16 ++ len := by
  apply BitVec.eq_of_toNat_eq
  rw [encode_toNat, payload_toNat, toNat_append']
  simp [Instr.opcode, Opcode.bits]

namespace Machine

theorem toNat_frameCeiling (len : BitVec 16) :
    (BitVec.ofInt 13 (frameCeiling (uint len))).toNat =
      if len.toNat ≤ 7680 then min (7680 - len.toNat) 4088 else 0 := by
  rw [BitVec.toNat_ofInt]
  unfold frameCeiling uint
  split_ifs <;> omega

end Machine
end Sys2Proof
end

section
open Sys2Proof Sys2Proof.Machine

/-- Settles O23: the word is the encoding, and the equation of FBEGIN names the five fields it writes. -/
theorem fbeginEffect : Obligations.FbeginEffect := fun len s =>
  ⟨decode_of_encode_fst_eq rfl nofun (encode_fbegin_fst len),
    BitVec.ofInt 13 (frameCeiling (uint len)), exec_eq_next (.fbegin len) s, toNat_frameCeiling len⟩
end

section
/-! SUPPORT. The image of selector 8 (10_state.md R46) as arithmetic on SIZE, and SIZE between frames (R47). -/

namespace Sys2Proof.Machine

/-- The arithmetic shift is the floor of the quotient, of which nine bits are kept. -/
theorem State.toNat_mdb (s : State) : (s.mdb.toNat : Int) = s.size.toInt / 8 % 512 := by
  have hshift : (s.size.sshiftRight 3).toInt = s.size.toInt / 8 := by
    rw [BitVec.toInt_sshiftRight, Int.shiftRight_eq_div_pow]
    rfl
  rw [← hshift, BitVec.toInt_eq_toNat_cond, State.mdb, BitVec.extractLsb'_toNat, Nat.shiftRight_zero]
  split <;> omega

theorem State.mdbOutOfRange_eq_false_iff (s : State) :
    s.mdbOutOfRange = false ↔ 0 ≤ s.size.toInt ∧ s.size.toInt ≤ 4088 ∧ s.size.toInt.tmod 8 = 0 := by
  simp [State.mdbOutOfRange, and_assoc]

/-- R46: bits 8 to 0 of the image are the expectation, bit 9 says that it is out of range. -/
theorem State.image_mdb (s : State) :
    ∃ w, s.image 8 = some w ∧ w.toNat = s.mdbOutOfRange.toNat * 512 + s.mdb.toNat := by
  refine ⟨0#22 ++ (BitVec.ofBool s.mdbOutOfRange ++ s.mdb), rfl, ?_⟩
  rw [toNat_append', toNat_append', BitVec.toNat_ofBool]
  simp

/-- Between frames an expectation that is not negative is in range. -/
theorem State.Inv.mdbOutOfRange_eq_false {s : State} (h : s.Inv) (hphase : s.phase = .awaitFrame)
    (hsize : 0 ≤ s.size.toInt) : s.mdbOutOfRange = false := by
  obtain ⟨hceiling, haligned⟩ := h.settledBetweenFrames hphase
  have hmax := h.maxLegal
  exact s.mdbOutOfRange_eq_false_iff.mpr ⟨hsize, by omega, haligned⟩

end Sys2Proof.Machine
end

section
open Sys2Proof Sys2Proof.Machine

/-- Settles O47: the invariant puts SIZE in range, so that the nine bits of the expectation hold the whole quotient. -/
theorem mdbBetweenFrames : Obligations.MdbBetweenFrames := by
  intro s hinv hphase hsize
  have hin := hinv.mdbOutOfRange_eq_false hphase hsize
  obtain ⟨-, hle, -⟩ := s.mdbOutOfRange_eq_false_iff.mp hin
  obtain ⟨w, himage, hw⟩ := s.image_mdb
  have hmdb := s.toNat_mdb
  have hdiv : s.size.toInt.tdiv 8 = s.size.toInt / 8 := Int.tdiv_eq_ediv_of_nonneg hsize
  rw [hin, Bool.toNat_false] at hw
  have hexec : exec (.rdreg 8) s = .next (s.respond w) :=
    (exec_eq_next _ s).trans (congrArg _ (execNext_rdreg_of_image himage))
  exact ⟨w, hexec, by omega, by omega⟩
end

section
/-! SUPPORT. The word of MAXBITS (30_encoding.md R94), what MAXBITS leaves in RESULT and in PE_INVALID
(41_granule_allocator.md R140, R142), the cases of the budget, and where it is negative (R146). -/

namespace Sys2Proof

theorem encode_maxbits (pe : Opnd) : encode (.maxbits pe) = (0x20000000, pe) := by
  have hword : Opcode.maxbits.bits ++ 0#28 = (0x20000000 : Word) := by decide
  exact congrArg (·, pe) hword

namespace Machine

theorem State.toInt_execNext_maxbits_result (s : State) (pe : Opnd) :
    (execNext (.maxbits pe) s).result.toInt = s.maxBits pe := s.toInt_maxBits pe

theorem State.execNext_maxbits_peInvalid (s : State) (pe : Opnd) :
    (execNext (.maxbits pe) s).status.peInvalid = (s.status.peInvalid || peInvalid (f64 pe)) := rfl

/-! The registers as numbers (R17, R140). -/

theorem State.nch_eq_one_add (s : State) : s.nch = 1 + s.stereo.toNat := by
  unfold State.nch
  cases s.stereo <;> rfl

theorem State.share_eq_natCast_div (s : State) : s.share = (s.mean.toNat / (1 + s.stereo.toNat) : Nat) := by
  rw [← s.nch_eq_one_add]
  rfl

theorem uint_eq_zero_iff {w : Nat} (v : BitVec w) : uint v = 0 ↔ v = 0 := by
  simp [uint, ← BitVec.toNat_inj]

/-! The budget: steps 2 and 3, and steps 5 to 7 (R140). -/

theorem budget_of_max_eq_zero (share size more : Int) : budget share size 0 more = min share 4095 := rfl

theorem budget_of_max_ne_zero {max : Int} (h : max ≠ 0) (share size more : Int) :
    budget share size max more = min (min share 4095 + extraBits size max more) 4095 := if_pos h

theorem State.maxBits_of_max_eq_zero {s : State} (h : s.max = 0) (pe : Opnd) : s.maxBits pe = min s.share 4095 := by
  rw [State.maxBits, (uint_eq_zero_iff s.max).mpr h, budget_of_max_eq_zero]

theorem State.maxBits_of_max_ne_zero {s : State} (h : s.max ≠ 0) (pe : Opnd) :
    s.maxBits pe =
      min (min s.share 4095 + extraBits s.size.toInt (uint s.max) (moreBits (f64 pe) s.share)) 4095 :=
  budget_of_max_ne_zero (mt (uint_eq_zero_iff s.max).mp h) ..

/-! Where the budget is negative (R146). -/

theorem extraBits_nonneg {size : Int} (h : 0 ≤ size) (max more : Int) : 0 ≤ extraBits size max more := by
  refine le_trans ?_ (grantedBits_le_extraBits size max more)
  unfold grantedBits
  rw [tdiv_eq_ite]
  split_ifs <;> omega

/-- With a deficit the grant is 60 % of it, below any demand above 100, and nothing is left above 80 % of the ceiling
and above the grant. -/
theorem extraBits_of_neg {size max : Int} (hsize : size < 0) (hmax : 0 ≤ max) (more : Int) :
    extraBits size max more = if 100 < more then (size * 6).tdiv 10 else 0 := by
  have hgrant : grantedBits size more = if 100 < more then (size * 6).tdiv 10 else 0 := by
    unfold grantedBits
    rw [tdiv_eq_ite]
    split_ifs <;> omega
  have habove : ¬ 0 < size - (max * 8).tdiv 10 - grantedBits size more := by
    rw [hgrant, tdiv_eq_ite, tdiv_eq_ite]
    split_ifs <;> omega
  rw [← hgrant]
  exact if_neg habove

theorem budget_neg_iff {share max : Int} (hshare : 0 ≤ share) (hmax : 0 ≤ max) (size more : Int) :
    budget share size max more < 0 ↔
      size < 0 ∧ max ≠ 0 ∧ 100 < more ∧ (size * 6).tdiv 10 < -(min share 4095) := by
  by_cases hzero : max = 0
  · subst hzero
    rw [budget_of_max_eq_zero]
    omega
  rw [budget_of_max_ne_zero hzero]
  rcases lt_or_ge size 0 with hneg | hnonneg
  · rw [extraBits_of_neg hneg hmax]
    split_ifs <;> omega
  · have hextra := extraBits_nonneg hnonneg max more
    omega

theorem State.maxBits_neg_iff (s : State) (pe : Opnd) :
    s.maxBits pe < 0 ↔ s.size.toInt < 0 ∧ s.max ≠ 0 ∧ 100 < moreBits (f64 pe) s.share ∧
      (s.size.toInt * 6).tdiv 10 < -(min s.share 4095) := by
  rw [State.maxBits, budget_neg_iff s.share_range.1 (uint_nonneg s.max), Ne, uint_eq_zero_iff]

end Machine
end Sys2Proof
end

section
open Sys2Proof Sys2Proof.Machine

/-- Settles O24: the equation of MAXBITS names the fields it writes, and steps 1 to 7 are its budget, without and with a
reservoir. -/
theorem maxbitsEffect : Obligations.MaxbitsEffect := by
  intro pe s
  refine ⟨decode_of_encode_eq rfl (encode_maxbits pe), BitVec.ofInt 32 (s.maxBits pe), ?effect, ?value⟩
  case effect =>
    rw [← s.nch_eq_one_add]
    exact exec_eq_next (.maxbits pe) s
  case value =>
    rw [s.toInt_maxBits pe, ← s.share_eq_natCast_div]
    split
    case isTrue hzero => exact State.maxBits_of_max_eq_zero hzero pe
    case isFalse hpos => exact State.maxBits_of_max_ne_zero hpos pe

/-- Settles O25: the range of the budget, and that it is negative only where SIZE is. -/
theorem maxbitsResultRange : Obligations.MaxbitsResultRange := by
  intro pe s
  refine ⟨execNext (.maxbits pe) s, exec_eq_next _ s, ?_⟩
  rw [s.toInt_execNext_maxbits_result]
  obtain ⟨hleast, hmost⟩ := s.maxBits_range pe
  exact ⟨hmost, hleast, fun hsize => not_lt.mp fun hneg => hsize.not_gt ((s.maxBits_neg_iff pe).mp hneg).1⟩

/-- Settles O26: RESULT is the budget, which is negative only through the grant, and the grant only with SIZE. -/
theorem maxbitsNegativeExactlyWhen : Obligations.MaxbitsNegativeExactlyWhen := by
  intro pe s
  refine ⟨execNext (.maxbits pe) s, exec_eq_next _ s, ?_⟩
  rw [s.toInt_execNext_maxbits_result]
  exact s.maxBits_neg_iff pe

/-- Settles O27: with MAX = 0 the budget is that of steps 1 and 2, and the flag is or-ed with the operand's test,
whatever MAX is. -/
theorem maxbitsWithoutReservoir : Obligations.MaxbitsWithoutReservoir := by
  intro pe s hmax
  refine ⟨execNext (.maxbits pe) s, exec_eq_next _ s, ?_, fun hinvalid => ?_⟩
  · rw [s.toInt_execNext_maxbits_result, State.maxBits_of_max_eq_zero hmax, s.share_eq_natCast_div]
  · rw [s.execNext_maxbits_peInvalid, hinvalid, Bool.or_true]
end

section
/-! SUPPORT. MOREBITS (41_granule_allocator.md R143, R144): the share is exact, no NaN arises after PE, the truncation
is the integer quotient of the magnitude, and the limits of 2^40 lie outside all that a grant can reach. -/

namespace Sys2Proof.Machine

theorem toF64_of_share {share : Int} (h0 : 0 ≤ share) (h1 : share ≤ 65535) :
    toF64 share = .fin false (share.toNat * F64.one) := by
  obtain ⟨n, rfl⟩ := Int.eq_ofNat_of_zero_le h0
  have hexact := integersConvertExactly n (by omega)
  rwa [decide_eq_false h0.not_gt] at hexact

/-! No NaN (log 11). -/

theorem F64.isNaN_ofRatio (neg : Bool) (num den : Nat) : (F64.ofRatio neg num den).isNaN = false := by
  unfold F64.ofRatio
  dsimp only
  split <;> rfl

theorem isNaN_mul64_fin {x : F64} (hx : x.isNaN = false) (neg : Bool) {mag : Nat} (hmag : mag ≠ 0) :
    (mul64 x (.fin neg mag)).isNaN = false := by
  cases x with
  | nan => cases hx
  | inf s => simp [mul64, hmag, F64.isNaN]
  | fin s m => rw [mul64, F64.isNaN_ofRatio]

theorem isNaN_sub64_fin {x : F64} (hx : x.isNaN = false) (neg : Bool) (mag : Nat) :
    (sub64 x (.fin neg mag)).isNaN = false := by
  cases x with
  | nan => cases hx
  | inf s => rfl
  | fin s m =>
    simp only [sub64]
    split
    · rfl
    · exact F64.isNaN_ofRatio ..

theorem c31_eq_fin : ∃ mag, c31 = .fin false mag ∧ mag ≠ 0 := ⟨_, rfl, by decide +kernel⟩

/-! The truncation (R14, R144). -/

theorem truncFin_eq (neg : Bool) (mag : Nat) :
    truncFin neg mag = if neg then -((mag / F64.one : Nat) : Int) else ((mag / F64.one : Nat) : Int) := by
  unfold truncFin signedMag
  cases neg
  · exact Int.ofNat_tdiv mag F64.one
  · simp only [if_true, Int.neg_tdiv, Int.ofNat_tdiv]

/-- Every value from 100 up to 101 truncates to 100. -/
theorem truncLimited_eq_hundred {mag : Nat} (h0 : 100 * F64.one ≤ mag) (h1 : mag < 101 * F64.one) :
    truncLimited (.fin false mag) = 100 := by
  have hquot : mag / F64.one = 100 := by
    generalize F64.one = unit at h0 h1
    exact Nat.div_eq_of_lt_le h0 h1
  rw [truncLimited, truncFin_eq, hquot]
  rfl

/-! The limits (R143). -/

/-- A demand that the upper limit changes is above the whole bank, and one that the lower limit changes is not above
100. -/
theorem grantedBits_clamp40 {size : Int} (h : size ≤ 2147483647) (more : Int) :
    grantedBits size (clamp40 more) = grantedBits size more := by
  unfold grantedBits clamp40
  rw [tdiv_eq_ite]
  split_ifs <;> omega

theorem budget_congr_grant {size more more' : Int} (h : grantedBits size more = grantedBits size more')
    (share max : Int) : budget share size max more = budget share size max more' := by
  simp only [budget, extraBits, h]

end Sys2Proof.Machine
end

section
open Sys2Proof Sys2Proof.Machine

/-- Settles O28: a NaN is answered at once, and otherwise neither operation gives one; the last line of MOREBITS then
reads off the difference. -/
theorem moreBitsFormula : Obligations.MoreBitsFormula := by
  intro pe share h0 h1
  have hshare := toF64_of_share h0 h1
  obtain ⟨m, hc31, hm⟩ := c31_eq_fin
  refine ⟨hshare, fun hnan => if_pos hnan, fun hnum => ⟨_, rfl, ?noNaN, ?_⟩⟩
  case noNaN =>
    rw [hshare, ← c31, hc31]
    exact isNaN_sub64_fin (isNaN_mul64_fin hnum false hm) ..
  have hmore : moreBits pe share = truncLimited (sub64 (mul64 pe c31) (toF64 share)) := if_neg (by simp [hnum])
  rw [← c31, hmore]
  refine ⟨fun ht => by rw [ht]; rfl, fun ht => by rw [ht]; rfl, fun neg mag ht => ?_⟩
  rw [ht, truncLimited, truncFin_eq]
  rfl

/-- Settles O29: the truncated demand is 100, which is not above 100. -/
theorem grantComparesAfterTruncation : Obligations.GrantComparesAfterTruncation := by
  refine ⟨fun mag size h0 h1 => ?_, by decide +kernel⟩
  rw [truncLimited_eq_hundred h0.le h1]
  exact ⟨rfl, rfl⟩

/-- Settles O30: the demand enters the budget through the grant alone, and the limits change no grant. -/
theorem limitsChangeNoBudget : Obligations.LimitsChangeNoBudget := fun share _ max more _ hsize =>
  budget_congr_grant (grantedBits_clamp40 hsize more) share max
end

section
/-! SUPPORT. PE_INVALID in the bits of the operand (30_encoding.md R94, 41_granule_allocator.md R142): first in its
three fields, then in the operand as a number. -/

namespace Sys2Proof.Machine

theorem peInvalid_f64_iff (pe : Opnd) :
    peInvalid (f64 pe) = true ↔
      (pe.extractLsb' 52 11).toNat = 2047 ∨
        pe.getLsbD 63 = true ∧ ((pe.extractLsb' 52 11).toNat ≠ 0 ∨ (pe.extractLsb' 0 52).toNat ≠ 0) := by
  unfold f64
  generalize pe.getLsbD 63 = neg, pe.extractLsb' 52 11 = exp, pe.extractLsb' 0 52 = frac
  dsimp only
  split_ifs with hmax hinf hsub
  · simp [peInvalid, F64.isInf, hmax]
  · simp [peInvalid, F64.isNaN, hmax]
  · simp [peInvalid, F64.isNaN, F64.isInf, F64.isNeg, hsub]
  · simp [peInvalid, F64.isNaN, F64.isInf, F64.isNeg, hmax, hsub]

theorem toNat_exponent (pe : Opnd) : (pe.extractLsb' 52 11).toNat = pe.toNat / 2 ^ 52 % 2 ^ 11 := by
  rw [BitVec.extractLsb'_toNat, Nat.shiftRight_eq_div_pow]

/-- The operand as the sum of its sign, exponent and fraction fields. -/
theorem toNat_eq_fields (pe : Opnd) :
    pe.toNat =
      (pe.getLsbD 63).toNat * 2 ^ 63 + ((pe.extractLsb' 52 11).toNat * 2 ^ 52 + (pe.extractLsb' 0 52).toNat) := by
  conv_lhs => rw [← sign_append_exponent_append_fraction pe, toNat_append', toNat_append', BitVec.toNat_ofBool]

theorem peInvalid_f64_iff_toNat (pe : Opnd) :
    peInvalid (f64 pe) = true ↔ pe.toNat / 2 ^ 52 % 2 ^ 11 = 2047 ∨ 2 ^ 63 ≤ pe.toNat ∧ pe.toNat ≠ 2 ^ 63 := by
  rw [peInvalid_f64_iff, ← toNat_exponent, toNat_eq_fields pe]
  have hexp := (pe.extractLsb' 52 11).isLt
  have hfrac := (pe.extractLsb' 0 52).isLt
  generalize (pe.extractLsb' 52 11).toNat = exp, (pe.extractLsb' 0 52).toNat = frac at hexp hfrac ⊢
  cases pe.getLsbD 63
  · simp only [Bool.toNat_false, Bool.false_eq_true, false_and, or_false]
    omega
  · simp only [Bool.toNat_true, true_and]
    omega

end Sys2Proof.Machine
end

section
open Sys2Proof Sys2Proof.Machine

/-- Settles O15: the flag is or-ed with the operand's test, and the test is read off the operand's bits. -/
theorem invalidEntropyInBits : Obligations.InvalidEntropyInBits := by
  intro pe s
  refine ⟨execNext (.maxbits pe) s, exec_eq_next _ s, ?_⟩
  rw [s.execNext_maxbits_peInvalid, Bool.or_eq_true, peInvalid_f64_iff_toNat]
end

section
/-! SUPPORT. The word of ADJUST (30_encoding.md R95) and the values it writes: the saturated sum (42_accumulator.md R162)
and the next slot (10_state.md R45). -/

namespace Sys2Proof

theorem encode_adjust_fst (used : BitVec 12) : (encode (.adjust used)).1 = 0x30000#20 ++ used := by
  apply BitVec.eq_of_toNat_eq
  rw [encode_toNat, payload_toNat, toNat_append']
  simp [Instr.opcode, Opcode.bits]

namespace Machine

theorem outside32_eq_decide (v : Int) : outside32 v = decide (v < -2 ^ 31 ∨ 2 ^ 31 - 1 < v) :=
  (Bool.decide_or ..).symm

theorem clamp32_eq_ite (v : Int) :
    clamp32 v = if v < -2 ^ 31 then -2 ^ 31 else if 2 ^ 31 - 1 < v then 2 ^ 31 - 1 else v := by
  unfold clamp32
  split_ifs <;> omega

theorem toNat_nextSlot (slot : BitVec 3) :
    (nextSlot slot).toNat = if slot.toNat = 7 then 7 else slot.toNat + 1 := by
  have hslot := slot.isLt
  rw [nextSlot, BitVec.toNat_ofNat]
  split_ifs <;> omega

end Machine
end Sys2Proof
end

section
open Sys2Proof Sys2Proof.Machine

/-- Settles O34: the word is the encoding, the equation of ADJUST names the fields it writes, and the saturating write
leaves the sum limited to the range of SIZE. -/
theorem adjustEffect : Obligations.AdjustEffect := by
  intro used s
  refine ⟨decode_of_encode_fst_eq rfl nofun (encode_adjust_fst used),
    BitVec.ofInt 32 (clamp32 (s.size.toInt + s.share - uint used)), nextSlot s.slot, ?effect, ?size,
    toNat_nextSlot s.slot⟩
  case effect =>
    rw [← s.share_eq_natCast_div, ← outside32_eq_decide]
    exact exec_eq_next (.adjust used) s
  case size =>
    rw [toInt_clamp32, clamp32_eq_ite, s.share_eq_natCast_div]
    rfl
end

section
/-! SUPPORT. The bound of 42_accumulator.md R165: which commands leave SEQ_ERR 0 (60_exceptions.md R221), and that each
command and each part of a clock edge keeps the bound. -/

namespace Sys2Proof.Machine

theorem execNext_fbegin_seqErr_eq_false_iff (len : BitVec 16) (s : State) :
    (execNext (.fbegin len) s).status.seqErr = false ↔ s.status.seqErr = false ∧ inOrder (.fbegin len) s := by
  simp [execNext_fbegin, Status.raise, State.seqErrFbegin, inOrder]

theorem execNext_maxbits_seqErr_eq_false_iff (pe : Opnd) (s : State) :
    (execNext (.maxbits pe) s).status.seqErr = false ↔ s.status.seqErr = false ∧ inOrder (.maxbits pe) s := by
  simp [execNext_maxbits, Status.raise, State.seqErrMaxbits, inOrder]

theorem execNext_adjust_seqErr_eq_false_iff (used : BitVec 12) (s : State) :
    (execNext (.adjust used) s).status.seqErr = false ↔ s.status.seqErr = false ∧ inOrder (.adjust used) s := by
  simp [execNext_adjust, State.writeSizeSat, Status.raise, State.seqErrAdjust, inOrder]

theorem State.toInt_execNext_adjust_size_le {s : State} {bound : Int} (used : BitVec 12)
    (hsize : s.size.toInt ≤ bound) (hbound : 0 ≤ bound) :
    (execNext (.adjust used) s).size.toInt ≤ bound + 65535 := by
  have hsum : (execNext (.adjust used) s).size.toInt = clamp32 (s.size.toInt + s.share - uint used) := toInt_clamp32 _
  have hshare := s.share_range
  have hused := uint_nonneg used
  rw [hsum, clamp32_eq_ite]
  split_ifs <;> omega

namespace State.OrderedBound

variable {s : State}

/-! The bound by phase. -/

theorem size_le_of_awaitFrame (h : s.OrderedBound) (hseq : s.status.seqErr = false) (hphase : s.phase = .awaitFrame) :
    s.size.toInt ≤ 4088 := by
  simpa only [hphase] using h hseq

theorem of_awaitGranule (h : s.OrderedBound) (hseq : s.status.seqErr = false) (hphase : s.phase = .awaitGranule) :
    s.slot.toNat ≤ 4 ∧ s.size.toInt ≤ 4088 + 65535 * s.slot.toNat := by
  simpa only [hphase] using h hseq

theorem of_awaitAdjust (h : s.OrderedBound) (hseq : s.status.seqErr = false) (hphase : s.phase = .awaitAdjust) :
    s.slot.toNat ≤ 3 ∧ s.size.toInt ≤ 4088 + 65535 * s.slot.toNat := by
  simpa only [hphase] using h hseq

theorem size_le (h : s.OrderedBound) (hseq : s.status.seqErr = false) : s.size.toInt ≤ 266228 := by
  cases hphase : s.phase with
  | awaitFrame => exact (h.size_le_of_awaitFrame hseq hphase).trans (by decide)
  | awaitGranule =>
    have := h.of_awaitGranule hseq hphase
    omega
  | awaitAdjust =>
    have := h.of_awaitAdjust hseq hphase
    omega

/-- Between frames the ceiling bounds SIZE, and MAX bounds the ceiling. -/
theorem of_inv_of_awaitFrame (hinv : s.Inv) (hphase : s.phase = .awaitFrame) : s.OrderedBound := by
  intro _
  have hsize := (hinv.settledBetweenFrames hphase).1
  have hmax := hinv.maxLegal
  simp only [hphase]
  omega

/-! What leaves SIZE, SLOT, PHASE and SEQ_ERR alone keeps the bound as it stands. -/

theorem setInputs (h : s.OrderedBound) (l : List Pins) : (s.setInputs l).OrderedBound := h

theorem setRsp (h : s.OrderedBound) (r : Option Word) : (s.setRsp r).OrderedBound := h

theorem respond (h : s.OrderedBound) (w : Word) : (s.respond w).OrderedBound := h

theorem setGur (h : s.OrderedBound) (f : RecordFile) : (s.setGur f).OrderedBound := h

theorem illegalCommand (h : s.OrderedBound) : s.illegalCommand.OrderedBound := h

/-! The commands of the call cycle. -/

/-- FBEGIN in order finds SIZE as FEND left it, and starts SLOT at 0. -/
theorem execNext_fbegin (h : s.OrderedBound) (len : BitVec 16) : (execNext (.fbegin len) s).OrderedBound := by
  intro hseq
  obtain ⟨hprev, hphase⟩ := (execNext_fbegin_seqErr_eq_false_iff len s).mp hseq
  exact ⟨Nat.zero_le 4, h.size_le_of_awaitFrame hprev hphase⟩

/-- MAXBITS in order finds a slot of the frame not yet done, of at most four. -/
theorem execNext_maxbits (h : s.OrderedBound) (pe : Opnd) : (execNext (.maxbits pe) s).OrderedBound := by
  intro hseq
  obtain ⟨hprev, hphase, hslot⟩ := (execNext_maxbits_seqErr_eq_false_iff pe s).mp hseq
  have hnch : s.nch ≤ 2 := by rw [s.nch_eq]; split <;> decide
  have hleft : s.slot.toNat ≤ 3 := by omega
  exact ⟨hleft, (h.of_awaitGranule hprev hphase).2⟩

/-- ADJUST in order raises SIZE by at most the share, and counts SLOT by one. -/
theorem execNext_adjust (h : s.OrderedBound) (used : BitVec 12) : (execNext (.adjust used) s).OrderedBound := by
  intro hseq
  obtain ⟨hprev, hphase⟩ := (execNext_adjust_seqErr_eq_false_iff used s).mp hseq
  obtain ⟨hslot, hsize⟩ := h.of_awaitAdjust hprev hphase
  have hnext : (execNext (.adjust used) s).slot.toNat = s.slot.toNat + 1 :=
    (toNat_nextSlot s.slot).trans (if_neg (by omega))
  have hrise := toInt_execNext_adjust_size_le used hsize (by omega)
  exact ⟨by omega, by omega⟩

/-- Every command keeps the bound; FEND brings it about, by the invariant between frames. -/
theorem execNext (hinv : s.Inv) (h : s.OrderedBound) (i : Instr) : (execNext i s).OrderedBound := by
  cases i with
  | nop => exact h.respond 0
  | fbegin len => exact h.execNext_fbegin len
  | maxbits pe => exact h.execNext_maxbits pe
  | adjust used => exact h.execNext_adjust used
  | fend => exact of_inv_of_awaitFrame hinv.execNext_fend rfl
  | wrcfg mean stereo => exact h
  | wrrec gr ch val =>
    obtain ⟨f, hnext⟩ | hnext := execNext_wrrec_cases gr ch val s <;> rw [hnext]
    · exact (h.setGur f).respond 0
    · exact h.illegalCommand
  | rdrec gr ch =>
    obtain ⟨w, hnext⟩ | hnext := execNext_rdrec_cases gr ch s <;> rw [hnext]
    · exact h.respond w
    · exact h.illegalCommand
  | rdreg sel =>
    obtain ⟨w, hnext⟩ | hnext := execNext_rdreg_cases sel s <;> rw [hnext]
    · exact h.respond w
    · exact h.illegalCommand
  | clrside => exact h

theorem reset : State.reset.OrderedBound := of_inv_of_awaitFrame inv_reset rfl

/-- The bound travels with the invariant, which FEND's case needs. -/
theorem stepOf (hinv : s.Inv) (h : s.OrderedBound) : (stepOf s).OrderedBound :=
  (stepOf_keeps (P := fun u => u.Inv ∧ u.OrderedBound)
    (fun i _ ⟨hi, hb⟩ => ⟨hi.execNext i, hb.execNext hi i⟩) (fun _ ⟨hi, hb⟩ => ⟨hi.illegalCommand, hb.illegalCommand⟩)
    (fun _ ⟨hi, hb⟩ => ⟨hi.setRsp none, hb.setRsp none⟩) (fun _ l ⟨hi, hb⟩ => ⟨hi.setInputs l, hb.setInputs l⟩)
    ⟨inv_reset, reset⟩ ⟨hinv, h⟩).2

end State.OrderedBound

end Sys2Proof.Machine
end

section
open Sys2Proof Sys2Proof.Machine

/-- Settles O20: reset has the bound, and every command, legal or illegal, keeps it where the invariant holds. -/
theorem stepKeepsOrderedBound : Obligations.StepKeepsOrderedBound := by
  intro s t hinv hbound hstep
  rw [eq_stepOf_of_step hstep]
  exact hbound.stepOf hinv

/-- Settles O21: SIZE is greatest after four slots, and one more share is far below the top of the range. -/
theorem orderedBoundExcludesTopSaturation : Obligations.OrderedBoundExcludesTopSaturation := by
  refine ⟨State.OrderedBound.reset, fun s hbound hseq => ?_⟩
  have hsize := hbound.size_le hseq
  refine ⟨hsize, fun used => ?_⟩
  have hshare := s.share_range
  have hused := uint_nonneg used
  omega
end

section
/-! SUPPORT. FEND by its parts (43_frame_end.md R170): step 1 in the readings `State.parityAdjusted` and
`State.stuffingCount`, what the order check and steps 1 to 3 leave, and the three cases of step 4. -/

namespace Sys2Proof.Machine

/-! Step 1 (R171). -/

theorem State.parityFix_eq (s : State) :
    s.parityFix = if s.stereo = true ∧ s.mean.toNat % 2 = 1 then s.writeSizeSat (s.size.toInt + 1) else s := by
  have hodd : (uint s.mean).tmod 2 = 1 ↔ s.mean.toNat % 2 = 1 := by
    rw [tmod_eq_ite, if_pos (uint_nonneg s.mean), uint]
    omega
  simp [State.parityFix, hodd]

theorem State.toInt_parityFix_size (s : State) : s.parityFix.size.toInt = s.parityAdjusted := by
  rw [parityFix_eq, parityAdjusted]
  split
  · have hsize := toInt32_range s.size
    rw [writeSizeSat_size, toInt_clamp32]
    unfold clamp32
    omega
  · rfl

theorem outside32_succ (v : BitVec 32) : outside32 (v.toInt + 1) = decide (v.toInt = 2147483647) := by
  have hv := toInt32_range v
  rw [outside32, ← Bool.decide_or]
  exact decide_eq_decide.mpr (by omega)

/-- Step 1 saturates only from the top of the range. -/
theorem State.parityFix_status (s : State) :
    s.parityFix.status = s.status.raise .sat
      (s.stereo && decide (s.mean.toNat % 2 = 1) && decide (s.size.toInt = 2147483647)) := by
  rw [parityFix_eq]
  split
  case isTrue happlies => simp [happlies, outside32_succ]
  case isFalse hnot =>
    rw [← Bool.decide_coe s.stereo, ← Bool.decide_and, decide_eq_false hnot, Bool.false_and, Status.raise_false]

/-! Steps 2 and 3 (R174). -/

theorem settledSize_of_le {size max : Int} (h : size ≤ max) : settledSize size max = size - size.tmod 8 := by
  rw [settledSize_eq, min_eq_left h]

theorem settledSize_of_ge {size max : Int} (h : max ≤ size) : settledSize size max = max - max.tmod 8 := by
  rw [settledSize_eq, min_eq_right h]

/-! The order check and steps 1 to 3 (R171 to R173, R179). -/

/-- What FEND has made of the state before it places the stuffing bits. -/
def State.reconciled (s : State) : State := (s.flagIf .seqErr s.seqErrFend).parityFix.settle

theorem State.stuffingCount_eq (s : State) : s.stuffingCount = stuffingBits s.parityAdjusted (uint s.max) := rfl

theorem State.reconciled_frame (s : State) :
    s.reconciled.max = s.max ∧ s.reconciled.mean = s.mean ∧ s.reconciled.stereo = s.stereo ∧
      s.reconciled.gur = s.gur ∧ s.reconciled.drain = s.drain := by
  simp [reconciled, settle_frame, parityFix_frame]

theorem State.toInt_reconciled_size (s : State) :
    s.reconciled.size.toInt = settledSize s.parityAdjusted (uint s.max) := by
  rw [reconciled, settle_toInt_size, toInt_parityFix_size, (parityFix_frame _).1]
  rfl

theorem State.toInt_reconciled_stuff (s : State) : s.reconciled.stuff.toInt = s.stuffingCount := by
  rw [reconciled, settle_toInt_stuff, toInt_parityFix_size, (parityFix_frame _).1]
  rfl

theorem State.reconciled_status (s : State) :
    s.reconciled.status = (s.status.raise .seqErr s.seqErrFend).raise .sat
      (s.stereo && decide (s.mean.toNat % 2 = 1) && decide (s.size.toInt = 2147483647)) :=
  (s.flagIf .seqErr s.seqErrFend).parityFix_status

/-- FEND is steps 1 to 3, then the placement of the stuffing count. -/
theorem execNext_fend_eq_place (s : State) :
    execNext .fend s = ((s.reconciled.place s.stuffingCount).setPhase .awaitFrame).respond 0 := by
  rw [execNext_fend, State.toInt_parityFix_size, (State.parityFix_frame _).1]
  rfl

theorem State.stuffingCount_le (s : State) : s.stuffingCount ≤ 2147483647 :=
  s.toInt_reconciled_stuff ▸ (toInt32_range _).2

/-! Step 4 (R175 to R178). -/

theorem State.place_status (s : State) (n : Int) :
    (s.place n).status = s.status.setPlan (s.place n).status.lastPlan := by
  unfold State.place State.planA State.planB
  split_ifs <;> rfl

theorem State.place_of_nonpos (s : State) {n : Int} (h : n ≤ 0) : s.place n = s.setPlan .none := if_neg h.not_gt

theorem State.place_of_fits {s : State} {n : Int} (hpos : 0 < n) (hfits : (s.gur.r00.toNat : Int) + n < 4095) :
    s.place n = s.planA n.toNat := by
  have hplan : s.planAFits n.toNat = true := decide_eq_true (show s.gur.r00.toNat + n.toNat < 4095 by omega)
  rw [place, if_pos hpos, if_pos hplan]

theorem State.place_of_not_fits {s : State} {n : Int} (hpos : 0 < n) (hfull : 4095 ≤ (s.gur.r00.toNat : Int) + n) :
    s.place n = s.planB n.toNat := by
  have hplan : ¬ s.planAFits n.toNat = true := by
    rw [planAFits, decide_eq_true_eq]
    exact show ¬ s.gur.r00.toNat + n.toNat < 4095 by omega
  rw [place, if_pos hpos, if_neg hplan]

/-! What FEND leaves, register by register. -/

theorem toInt_execNext_fend_size (s : State) :
    (execNext .fend s).size.toInt = settledSize s.parityAdjusted (uint s.max) := by
  rw [← s.toInt_reconciled_size]
  simp [execNext_fend_eq_place, State.place_frame]

/-- FEND leaves SIZE aligned and at most its ceiling (R174). -/
theorem execNext_fend_settled (s : State) :
    (execNext .fend s).size.toInt ≤ uint (execNext .fend s).max ∧ (execNext .fend s).size.toInt.tmod 8 = 0 := by
  have hmax : (execNext .fend s).max = s.max := (execNext_fend_frame s).1
  rw [hmax, toInt_execNext_fend_size]
  exact ⟨settledSize_le (uint_nonneg s.max) _, settledSize_tmod_eight _ _⟩

/-- Steps 2 and 3 move bits from SIZE to STUFF. -/
theorem toInt_execNext_fend_size_eq_sub (s : State) :
    (execNext .fend s).size.toInt = s.parityAdjusted - s.stuffingCount := by
  rw [toInt_execNext_fend_size, s.stuffingCount_eq]
  exact eq_sub_of_add_eq (settledSize_add_stuffingBits ..)

theorem toInt_execNext_fend_stuff (s : State) : (execNext .fend s).stuff.toInt = s.stuffingCount := by
  rw [← s.toInt_reconciled_stuff]
  simp [execNext_fend_eq_place, State.place_frame]

theorem execNext_fend_status (s : State) :
    (execNext .fend s).status =
      { s.status with
        seqErr := s.status.seqErr || s.seqErrFend
        sat := s.status.sat || (s.stereo && decide (s.mean.toNat % 2 = 1) && decide (s.size.toInt = 2147483647))
        lastPlan := (execNext .fend s).status.lastPlan } := by
  simp only [execNext_fend_eq_place, State.respond_status, State.setPhase_status]
  conv_lhs => rw [State.place_status, State.reconciled_status]
  rfl

theorem execNext_fend_of_nonpos {s : State} (h : s.stuffingCount ≤ 0) :
    execNext .fend s = ((s.reconciled.setPlan .none).setPhase .awaitFrame).respond 0 := by
  rw [execNext_fend_eq_place, State.place_of_nonpos _ h]

theorem execNext_fend_placement_of_nonpos {s : State} (h : s.stuffingCount ≤ 0) :
    (execNext .fend s).status.lastPlan = .none ∧ (execNext .fend s).gur = s.gur ∧
      (execNext .fend s).drain = s.drain := by
  simp [execNext_fend_of_nonpos h, s.reconciled_frame]

theorem execNext_fend_placement_of_fits {s : State} (hpos : 0 < s.stuffingCount)
    (hfits : (s.gur.r00.toNat : Int) + s.stuffingCount < 4095) :
    (execNext .fend s).status.lastPlan = .planA ∧
      (execNext .fend s).gur = s.gur.set .g0 .c0 (BitVec.ofNat 12 (s.gur.r00.toNat + s.stuffingCount.toNat)) ∧
      (execNext .fend s).drain = s.drain := by
  obtain ⟨-, -, -, hgur, -⟩ := s.reconciled_frame
  rw [execNext_fend_eq_place, State.place_of_fits hpos (hgur.symm ▸ hfits)]
  simp [State.planA, s.reconciled_frame, RecordFile.get]

theorem execNext_fend_placement_of_not_fits {s : State} (hpos : 0 < s.stuffingCount)
    (hfull : 4095 ≤ (s.gur.r00.toNat : Int) + s.stuffingCount) :
    (execNext .fend s).status.lastPlan = .planB ∧
      (execNext .fend s).gur = (placeAll (slotsOf s.stereo) s.gur s.stuffingCount.toNat).1 ∧
      (execNext .fend s).drain = BitVec.ofNat 32 (placeAll (slotsOf s.stereo) s.gur s.stuffingCount.toNat).2 := by
  obtain ⟨-, -, -, hgur, -⟩ := s.reconciled_frame
  rw [execNext_fend_eq_place, State.place_of_not_fits hpos (hgur.symm ▸ hfull)]
  simp [State.planB, s.reconciled_frame]

end Sys2Proof.Machine
end

section
open Sys2Proof Sys2Proof.Machine

/-- Settles O35: steps 2 and 3 move bits from SIZE to STUFF, and step 4 writes none of these registers. -/
theorem fendSettlesTheReservoir : Obligations.FendSettlesTheReservoir := by
  intro s
  obtain ⟨hmax, hmean, hstereo, hresult, hslot, hinputs⟩ := execNext_fend_frame s
  refine ⟨execNext .fend s, exec_eq_next _ s, toInt_execNext_fend_size_eq_sub s, toInt_execNext_fend_stuff s,
    rfl, rfl, ?order, ?_, ?_, ?_, ?_, hmax, hmean, hstereo, hresult, hslot, hinputs⟩
  case order => rw [execNext_fend_status, State.seqErrFend, s.nch_eq_one_add]
  all_goals rw [execNext_fend_status]

/-- Settles O36: SIZE is what steps 2 and 3 leave of the size after step 1. -/
theorem fendGuaranteesSize : Obligations.FendGuaranteesSize := by
  intro s
  obtain ⟨hceiling, haligned⟩ := execNext_fend_settled s
  have hnonneg := uint_nonneg s.max
  have hlow := min_le_settledSize hnonneg s.parityAdjusted
  refine ⟨execNext .fend s, exec_eq_next _ s, hceiling, haligned, ?_⟩
  rw [toInt_execNext_fend_size]
  refine ⟨fun hpos => ⟨by omega, fun hover => ?excess⟩, fun hneg => ?negative⟩
  case excess =>
    have hfull : uint s.max ≤ s.parityAdjusted := Int.le_of_sub_nonneg hover.le
    rw [settledSize_of_ge hfull, tmod_eq_ite, if_pos hnonneg, uint]
    omega
  case negative =>
    rw [settledSize_of_le (by omega), tmod_eq_ite, if_neg (by omega)]
    omega

/-- Settles O37: the range of the count, and the case of step 4 that places nothing. -/
theorem fendPlacesNothing : Obligations.FendPlacesNothing := by
  intro s
  have hleast := (stuffingBits_range (uint_nonneg s.max) s.parityAdjusted).1
  refine ⟨hleast, s.stuffingCount_le, ⟨_, exec_eq_next _ s, toInt_execNext_fend_stuff s⟩, fun hnone => ?_⟩
  obtain ⟨hplan, hgur, hdrain⟩ := execNext_fend_placement_of_nonpos hnone
  exact ⟨_, exec_eq_next _ s, hgur, hdrain, hplan⟩

/-- Settles O38: the sum fits the 12 bits of the one record that Plan A writes. -/
theorem fendPlanA : Obligations.FendPlanA := by
  intro s hpos hfits
  obtain ⟨hplan, hgur, hdrain⟩ := execNext_fend_placement_of_fits hpos hfits
  refine ⟨_, exec_eq_next _ s, ?_⟩
  rw [hgur, RecordFile.set, BitVec.toNat_ofNat]
  exact ⟨by omega, by omega, rfl, rfl, rfl, hdrain, hplan⟩
end

section
/-! SUPPORT. Plan B as a pass over the slots (43_frame_end.md R177, R178): what each visited record takes, what is left
for DRAIN, and that no bit is lost or made on the way. -/

namespace Sys2Proof.Machine

/-- The room of a slot's record, up to 4095 (R177). -/
def RecordFile.room (f : RecordFile) (slot : Slot) : Nat := 4095 - (f.get slot.1 slot.2).toNat

/-- The room of the records of some slots together. -/
def RecordFile.roomIn (f : RecordFile) (l : List Slot) : Nat := (l.map f.room).sum

/-- The sum of the four records. -/
def RecordFile.total (f : RecordFile) : Nat := f.r00.toNat + f.r01.toNat + f.r10.toNat + f.r11.toNat

theorem RecordFile.roomIn_cons (f : RecordFile) (slot : Slot) (l : List Slot) :
    f.roomIn (slot :: l) = f.room slot + f.roomIn l := List.sum_cons

/-! One visit. -/

theorem placeIn_get_other (f : RecordFile) {g g' : Granule} {c c' : Channel} (n : Nat) (h : (g, c) ≠ (g', c')) :
    (placeIn f g c n).1.get g' c' = f.get g' c' := f.get_set_other _ h

theorem placeIn_roomIn (f : RecordFile) {g : Granule} {c : Channel} (n : Nat) {l : List Slot} (h : (g, c) ∉ l) :
    (placeIn f g c n).1.roomIn l = f.roomIn l :=
  congrArg List.sum (List.map_congr_left fun _ hslot => congrArg (4095 - BitVec.toNat ·)
    (placeIn_get_other f n (ne_of_mem_of_not_mem hslot h).symm))

theorem RecordFile.get_le_get_set (f : RecordFile) {g : Granule} {c : Channel} {v : Record}
    (h : (f.get g c).toNat ≤ v.toNat) (g' : Granule) (c' : Channel) :
    (f.get g' c').toNat ≤ ((f.set g c v).get g' c').toNat := by
  by_cases hslot : (g, c) = (g', c')
  · cases hslot
    rwa [f.get_set_self]
  · rw [f.get_set_other v hslot]

theorem placeIn_fst (f : RecordFile) (g : Granule) (c : Channel) (n : Nat) :
    (placeIn f g c n).1 = f.set g c ((placeIn f g c n).1.get g c) := by
  simp [placeIn]

theorem get_le_placeIn_get (f : RecordFile) (g : Granule) (c : Channel) (n : Nat) (g' : Granule) (c' : Channel) :
    (f.get g' c').toNat ≤ ((placeIn f g c n).1.get g' c').toNat := by
  have hgrows : (f.get g c).toNat ≤ ((placeIn f g c n).1.get g c).toNat := placeIn_get f g c n ▸ Nat.le_add_right ..
  rw [placeIn_fst]
  exact f.get_le_get_set hgrows g' c'

theorem RecordFile.total_set (f : RecordFile) (g : Granule) (c : Channel) (v : Record) :
    (f.set g c v).total + (f.get g c).toNat = f.total + v.toNat := by
  cases g <;> cases c <;> simp only [RecordFile.set, RecordFile.get, RecordFile.total] <;> omega

/-- What leaves the count enters the record. -/
theorem placeIn_total (f : RecordFile) (g : Granule) (c : Channel) (n : Nat) :
    (placeIn f g c n).1.total + (placeIn f g c n).2 = f.total + n := by
  have hrecord := placeIn_get f g c n
  have htotal := f.total_set g c ((placeIn f g c n).1.get g c)
  have hleft : (placeIn f g c n).2 = n - min (4095 - (f.get g c).toNat) n := rfl
  rw [← placeIn_fst] at htotal
  omega

/-! All visits. -/

theorem placeAll_get_of_notMem {l : List Slot} {g : Granule} {c : Channel} (h : (g, c) ∉ l) (f : RecordFile)
    (n : Nat) : (placeAll l f n).1.get g c = f.get g c := by
  induction l generalizing f n with
  | nil => rfl
  | cons slot rest ih =>
    rw [List.mem_cons, not_or] at h
    obtain ⟨hne, hrest⟩ := h
    rw [placeAll_cons, ih hrest, placeIn_get_other f n (Ne.symm hne)]

/-- A record takes what its room allows of what the records before it have left. -/
theorem placeAll_get {before after : List Slot} {g : Granule} {c : Channel}
    (h : (before ++ (g, c) :: after).Nodup) (f : RecordFile) (n : Nat) :
    ((placeAll (before ++ (g, c) :: after) f n).1.get g c).toNat =
      (f.get g c).toNat + min (4095 - (f.get g c).toNat) (n - f.roomIn before) := by
  induction before generalizing f n with
  | nil =>
    rw [List.nil_append, placeAll_cons, placeAll_get_of_notMem (List.nodup_cons.mp h).1, placeIn_get]
    rfl
  | cons slot rest ih =>
    rw [List.cons_append, List.nodup_cons, List.mem_append, not_or] at h
    obtain ⟨hslot, hrest⟩ := h
    obtain ⟨hbefore, hother⟩ := hslot
    rw [List.cons_append, placeAll_cons, ih hrest, placeIn_get_other f n (List.ne_of_not_mem_cons hother),
      placeIn_roomIn f n hbefore, f.roomIn_cons, Nat.sub_sub]
    rfl

/-- What is left over is what the room of all slots does not hold. -/
theorem placeAll_snd {l : List Slot} (h : l.Nodup) (f : RecordFile) (n : Nat) :
    (placeAll l f n).2 = n - f.roomIn l := by
  induction l generalizing f n with
  | nil => rfl
  | cons slot rest ih =>
    obtain ⟨hslot, hrest⟩ := List.nodup_cons.mp h
    rw [placeAll_cons, ih hrest, placeIn_roomIn f n hslot, f.roomIn_cons, Nat.sub_sub]
    rfl

theorem get_le_placeAll_get (l : List Slot) (f : RecordFile) (n : Nat) (g : Granule) (c : Channel) :
    (f.get g c).toNat ≤ ((placeAll l f n).1.get g c).toNat := by
  induction l generalizing f n with
  | nil => rfl
  | cons slot rest ih =>
    rw [placeAll_cons]
    exact (get_le_placeIn_get f slot.1 slot.2 n g c).trans (ih _ _)

/-- "No stuffing bit is lost": each lands in a record or is left over (R178). -/
theorem placeAll_total (l : List Slot) (f : RecordFile) (n : Nat) :
    (placeAll l f n).1.total + (placeAll l f n).2 = f.total + n := by
  induction l generalizing f n with
  | nil => rfl
  | cons slot rest ih =>
    have hvisit := placeIn_total f slot.1 slot.2 n
    have hrest := ih (placeIn f slot.1 slot.2 n).1 (placeIn f slot.1 slot.2 n).2
    rw [placeAll]
    split
    · subst n; rfl
    · omega

/-! The slots of a frame. -/

theorem slotsOf_nodup (stereo : Bool) : (slotsOf stereo).Nodup := by
  cases stereo <;> decide

theorem placeAll_slotsOf_get {stereo : Bool} (before : List Slot) (g : Granule) (c : Channel) {after : List Slot}
    (h : slotsOf stereo = before ++ (g, c) :: after) (f : RecordFile) (n : Nat) :
    ((placeAll (slotsOf stereo) f n).1.get g c).toNat =
      (f.get g c).toNat + min (4095 - (f.get g c).toNat) (n - f.roomIn before) := by
  have hnodup := slotsOf_nodup stereo
  rw [h] at hnodup ⊢
  exact placeAll_get hnodup f n

/-- DRAIN has 32 bits, so it holds all that Plan B leaves over. -/
theorem toNat_execNext_fend_drain_of_not_fits {s : State} (hpos : 0 < s.stuffingCount)
    (hfull : 4095 ≤ (s.gur.r00.toNat : Int) + s.stuffingCount) :
    (execNext .fend s).drain.toNat = (placeAll (slotsOf s.stereo) s.gur s.stuffingCount.toNat).2 := by
  have hleft := placeAll_snd_le (slotsOf s.stereo) s.gur s.stuffingCount.toNat
  have hcount := s.stuffingCount_le
  obtain ⟨-, -, hdrain⟩ := execNext_fend_placement_of_not_fits hpos hfull
  rw [hdrain, BitVec.toNat_ofNat]
  omega

end Sys2Proof.Machine
end

section
open Sys2Proof Sys2Proof.Machine

/-- Settles O39: each record takes what the slots before it leave, and DRAIN what all of them leave. -/
theorem fendPlanB : Obligations.FendPlanB := by
  intro s hpos hfull
  obtain ⟨hplan, hgur, -⟩ := execNext_fend_placement_of_not_fits hpos hfull
  have hdrain := toNat_execNext_fend_drain_of_not_fits hpos hfull
  rw [placeAll_snd (slotsOf_nodup _)] at hdrain
  refine ⟨_, exec_eq_next _ s, hplan, ?first, fun hstereo => ?two, fun hstereo => ?one⟩ <;> rw [hgur]
  case first =>
    have hslots : slotsOf s.stereo = [] ++ (.g0, .c0) :: (slotsOf s.stereo).tail := by cases s.stereo <;> rfl
    exact placeAll_slotsOf_get [] .g0 .c0 hslots s.gur _
  case two =>
    rw [hdrain, hstereo]
    simp only [Nat.sub_sub, Nat.add_assoc]
    exact ⟨placeAll_slotsOf_get [(.g0, .c0)] .g0 .c1 rfl s.gur _,
      placeAll_slotsOf_get [(.g0, .c0), (.g0, .c1)] .g1 .c0 rfl s.gur _,
      placeAll_slotsOf_get [(.g0, .c0), (.g0, .c1), (.g1, .c0)] .g1 .c1 rfl s.gur _, rfl⟩
  case one =>
    rw [hdrain, hstereo, Nat.sub_sub]
    exact ⟨placeAll_get_of_notMem (g := .g0) (c := .c1) (by decide) s.gur _,
      placeAll_get_of_notMem (g := .g1) (c := .c1) (by decide) s.gur _,
      placeAll_slotsOf_get [(.g0, .c0)] .g1 .c0 rfl s.gur _, rfl⟩

/-- Settles O40: Plan A adds the count to one record, and Plan B's visits lose no bit. -/
theorem stuffingIsConserved : Obligations.StuffingIsConserved := by
  intro s
  refine ⟨_, exec_eq_next _ s, ?_⟩
  have hpositive : (max 0 s.stuffingCount).toNat = s.stuffingCount.toNat := by omega
  rw [toInt_execNext_fend_stuff, hpositive]
  rcases le_or_gt s.stuffingCount 0 with hnone | hpos
  · obtain ⟨hplan, hgur, hdrain⟩ := execNext_fend_placement_of_nonpos hnone
    rw [hplan, hgur, hdrain, Int.toNat_of_nonpos hnone]
    exact ⟨fun _ _ => le_rfl, fun _ => rfl, rfl⟩
  rcases lt_or_ge ((s.gur.r00.toNat : Int) + s.stuffingCount) 4095 with hfits | hfull
  · obtain ⟨hplan, hgur, hdrain⟩ := execNext_fend_placement_of_fits hpos hfits
    have hrecord : (BitVec.ofNat 12 (s.gur.r00.toNat + s.stuffingCount.toNat)).toNat =
        (s.gur.get .g0 .c0).toNat + s.stuffingCount.toNat := Nat.mod_eq_of_lt (by omega)
    have htotal := s.gur.total_set .g0 .c0 (BitVec.ofNat 12 (s.gur.r00.toNat + s.stuffingCount.toNat))
    rw [hplan, hgur, hdrain, if_neg nofun]
    refine ⟨s.gur.get_le_get_set ((Nat.le_add_right ..).trans hrecord.ge), fun _ => rfl, ?_⟩
    simp only [RecordFile.total] at htotal
    omega
  · obtain ⟨hplan, hgur, -⟩ := execNext_fend_placement_of_not_fits hpos hfull
    rw [hplan, hgur, if_pos rfl, toNat_execNext_fend_drain_of_not_fits hpos hfull]
    exact ⟨get_le_placeAll_get _ _ _, fun hnot => absurd rfl hnot, placeAll_total _ _ _⟩
end

section
/-! SUPPORT. A FEND right after a FEND (43_frame_end.md R180): the count that it finds on an aligned SIZE, and where
Plan B puts a single bit. -/

namespace Sys2Proof.Machine

/-! The stuffing count where SIZE is aligned and at most its ceiling, as a FEND leaves it (R174). -/

theorem stuffingBits_of_settled {size max : Int} (hceiling : size ≤ max) (haligned : size.tmod 8 = 0) :
    stuffingBits size max = 0 := by
  have hmoved := settledSize_add_stuffingBits size max
  rw [settledSize_of_le hceiling, haligned] at hmoved
  omega

section
variable {s : State} (hceiling : s.size.toInt ≤ uint s.max)
include hceiling

theorem State.parityAdjusted_of_parity (hparity : s.stereo = true ∧ s.mean.toNat % 2 = 1) :
    s.parityAdjusted = s.size.toInt + 1 := by
  have hmax := s.max.isLt
  unfold uint at hceiling
  rw [parityAdjusted, if_pos hparity]
  omega

variable (haligned : s.size.toInt.tmod 8 = 0)
include haligned

theorem State.stuffingCount_of_no_parity (hparity : ¬ (s.stereo = true ∧ s.mean.toNat % 2 = 1)) :
    s.stuffingCount = 0 := by
  rw [stuffingCount_eq, parityAdjusted, if_neg hparity, stuffingBits_of_settled hceiling haligned]

/-- Step 2 or step 3 takes the parity bit out again. -/
theorem State.stuffingCount_of_parity_of_nonneg (hparity : s.stereo = true ∧ s.mean.toNat % 2 = 1)
    (hsize : 0 ≤ s.size.toInt) : s.stuffingCount = 1 := by
  have hmoved := settledSize_add_stuffingBits (s.size.toInt + 1) (uint s.max)
  rw [settledSize_eq, tmod_eq_ite] at hmoved
  rw [tmod_eq_ite] at haligned
  rw [stuffingCount_eq, parityAdjusted_of_parity hceiling hparity]
  omega

/-- The parity bit takes a negative SIZE off its multiple of 8, and step 3 raises it to the next one. -/
theorem State.stuffingCount_of_parity_of_neg (hparity : s.stereo = true ∧ s.mean.toNat % 2 = 1)
    (hsize : s.size.toInt < 0) : s.stuffingCount = -7 := by
  have hmax := uint_nonneg s.max
  have hmoved := settledSize_add_stuffingBits (s.size.toInt + 1) (uint s.max)
  rw [settledSize_of_le (by omega), tmod_eq_ite] at hmoved
  rw [tmod_eq_ite] at haligned
  rw [stuffingCount_eq, parityAdjusted_of_parity hceiling hparity]
  omega

end

theorem State.seqErrFend_of_awaitFrame {s : State} (h : s.phase = .awaitFrame) : s.seqErrFend = true := by
  simp [seqErrFend, h]

theorem State.settle_of_settled {s : State} (hceiling : s.size.toInt ≤ uint s.max)
    (haligned : s.size.toInt.tmod 8 = 0) : s.settle = s.setStuff 0 := by
  have hsettled : settledSize s.size.toInt (uint s.max) = s.size.toInt := by
    rw [settledSize_of_le hceiling, haligned, Int.sub_zero]
  rw [settle, hsettled, stuffingBits_of_settled hceiling haligned, writeSize, BitVec.ofInt_toInt]
  rfl

/-- The repeated FEND that moves no bit. -/
theorem execNext_fend_of_settled {s : State} (hphase : s.phase = .awaitFrame) (hrsp : s.rsp = some 0)
    (hceiling : s.size.toInt ≤ uint s.max) (haligned : s.size.toInt.tmod 8 = 0)
    (hparity : ¬ (s.stereo = true ∧ s.mean.toNat % 2 = 1)) :
    execNext .fend s = { s with stuff := 0, status := { s.status with seqErr := true, lastPlan := .none } } := by
  have hcount := State.stuffingCount_of_no_parity hceiling haligned hparity
  have hfix : (s.flagIf .seqErr s.seqErrFend).parityFix = s.flagIf .seqErr s.seqErrFend :=
    (State.parityFix_eq _).trans (if_neg hparity)
  have hsettle : (s.flagIf .seqErr s.seqErrFend).settle = (s.flagIf .seqErr s.seqErrFend).setStuff 0 :=
    State.settle_of_settled hceiling haligned
  calc execNext .fend s
    _ = { s with
          stuff := 0, phase := .awaitFrame, rsp := some 0,
          status := { s.status with seqErr := s.status.seqErr || s.seqErrFend, lastPlan := .none } } := by
      rw [execNext_fend_of_nonpos hcount.le, State.reconciled, hfix, hsettle]
      rfl
    _ = { s with stuff := 0, status := { s.status with seqErr := true, lastPlan := .none } } := by
      rw [State.seqErrFend_of_awaitFrame hphase, Bool.or_true, ← hphase, ← hrsp]

/-! Where Plan B puts a single bit (R177). -/

theorem placeAll_cons_of_full {f : RecordFile} {g : Granule} {c : Channel} (h : f.get g c = 4095) (rest : List Slot)
    (n : Nat) : placeAll ((g, c) :: rest) f n = placeAll rest f n := by
  have hsame : (placeIn f g c n).1 = (placeIn f g c 0).1 := by simp [placeIn, h]
  rw [placeAll_cons, h, hsame, placeIn_zero]
  rfl

/-- The first visited record below 4095 takes the bit. -/
theorem placeAll_one {before : List Slot} {f : RecordFile} (hfull : ∀ slot ∈ before, f.get slot.1 slot.2 = 4095)
    {g : Granule} {c : Channel} (hroom : f.get g c ≠ 4095) (after : List Slot) :
    placeAll (before ++ (g, c) :: after) f 1 = (f.set g c (f.get g c + 1), 0) := by
  induction before with
  | nil =>
    have hlt := (f.get g c).isLt
    have hne : (f.get g c).toNat ≠ 4095 := fun h => hroom (BitVec.eq_of_toNat_eq h)
    have hput : min (4095 - (f.get g c).toNat) 1 = 1 := by omega
    simp [placeAll, placeIn, hput, BitVec.ofNat_add]
  | cons slot rest ih =>
    obtain ⟨hslot, hrest⟩ := List.forall_mem_cons.mp hfull
    exact (placeAll_cons_of_full hslot _ 1).trans (ih hrest)

theorem placeAll_of_full {l : List Slot} {f : RecordFile} (hfull : ∀ slot ∈ l, f.get slot.1 slot.2 = 4095)
    (n : Nat) : placeAll l f n = (f, n) := by
  induction l with
  | nil => rfl
  | cons slot rest ih =>
    obtain ⟨hslot, hrest⟩ := List.forall_mem_cons.mp hfull
    exact (placeAll_cons_of_full hslot rest n).trans (ih hrest)

/-- Plan B of one bit. -/
theorem execNext_fend_of_one_bit {s : State} (hcount : s.stuffingCount = 1) (hstereo : s.stereo = true)
    (hfull : 4094 ≤ s.gur.r00.toNat) :
    (execNext .fend s).status.lastPlan = .planB ∧
      (execNext .fend s).gur = (placeAll (slotsOf true) s.gur 1).1 ∧
      (execNext .fend s).drain = BitVec.ofNat 32 (placeAll (slotsOf true) s.gur 1).2 := by
  have hplaced := execNext_fend_placement_of_not_fits (s := s) (by omega) (by omega)
  rwa [hcount, hstereo] at hplaced

theorem execNext_fend_of_one_bit_of_room {s : State} (hcount : s.stuffingCount = 1) (hstereo : s.stereo = true)
    (hnotA : 4094 ≤ s.gur.r00.toNat) {before after : List Slot} {g : Granule} {c : Channel}
    (hslots : slotsOf true = before ++ (g, c) :: after) (hfull : ∀ slot ∈ before, s.gur.get slot.1 slot.2 = 4095)
    (hroom : s.gur.get g c ≠ 4095) :
    (execNext .fend s).gur = s.gur.set g c (s.gur.get g c + 1) ∧ (execNext .fend s).drain = 0 := by
  obtain ⟨-, hgur, hdrain⟩ := execNext_fend_of_one_bit hcount hstereo hnotA
  rw [hgur, hdrain, hslots, placeAll_one hfull hroom]
  exact ⟨rfl, rfl⟩

theorem execNext_fend_of_one_bit_of_full {s : State} (hcount : s.stuffingCount = 1) (hstereo : s.stereo = true)
    (hnotA : 4094 ≤ s.gur.r00.toNat) (hfull : ∀ slot ∈ slotsOf true, s.gur.get slot.1 slot.2 = 4095) :
    (execNext .fend s).gur = s.gur ∧ (execNext .fend s).drain = 1 := by
  obtain ⟨-, hgur, hdrain⟩ := execNext_fend_of_one_bit hcount hstereo hnotA
  rw [hgur, hdrain, placeAll_of_full hfull]
  exact ⟨rfl, rfl⟩

end Sys2Proof.Machine
end

section
open Sys2Proof Sys2Proof.Machine

/-- Settles O41: the second FEND finds SIZE aligned and at most its ceiling, so that its count is 0 without the parity
bit and 1 or -7 with it; a count of 1 goes to the first record with room. -/
theorem repeatedFend : Obligations.RepeatedFend := by
  intro s
  obtain ⟨hceiling, haligned⟩ := execNext_fend_settled s
  obtain ⟨-, hmean, hstereo, -⟩ := execNext_fend_frame s
  have hphase : (execNext .fend s).phase = .awaitFrame := rfl
  have hrsp : (execNext .fend s).rsp = some 0 := rfl
  refine ⟨execNext .fend s, execNext .fend (execNext .fend s), exec_eq_next _ s, exec_eq_next _ _, ?_⟩
  rw [← hmean, ← hstereo]
  generalize execNext .fend s = t at hceiling haligned hphase hrsp ⊢
  have hsize := toInt_execNext_fend_size_eq_sub t
  have hstuff := toInt_execNext_fend_stuff t
  refine ⟨?order, execNext_fend_of_settled hphase hrsp hceiling haligned, fun htwo hodd hnonneg => ?oneBit,
    fun htwo hodd hneg => ?negative⟩
  case order => rw [execNext_fend_status, State.seqErrFend_of_awaitFrame hphase, Bool.or_true]
  case negative =>
    have hcount := State.stuffingCount_of_parity_of_neg hceiling haligned ⟨htwo, hodd⟩ hneg
    have hfixed := State.parityAdjusted_of_parity hceiling ⟨htwo, hodd⟩
    obtain ⟨-, hgur, hdrain⟩ := execNext_fend_placement_of_nonpos (s := t) (by omega)
    exact ⟨by omega, by omega, hgur, hdrain⟩
  case oneBit =>
    have hcount := State.stuffingCount_of_parity_of_nonneg hceiling haligned ⟨htwo, hodd⟩ hnonneg
    have hfixed := State.parityAdjusted_of_parity hceiling ⟨htwo, hodd⟩
    have hnotA (h : t.gur.r00 = 4095) : 4094 ≤ t.gur.r00.toNat := by rw [h]; decide
    refine ⟨BitVec.eq_of_toInt_eq (by omega), BitVec.eq_of_toInt_eq (hstuff.trans hcount), fun hfits => ?planA,
      fun hfull => (execNext_fend_of_one_bit hcount htwo hfull).1, fun h00 => ?r00, fun h00 h01 => ?r01,
      fun h00 h01 h10 => ?r10, fun h00 h01 h10 h11 => ?r11, fun h00 h01 h10 h11 => ?drain⟩
    case planA =>
      obtain ⟨hplan, hgur, hdrain⟩ := execNext_fend_placement_of_fits (s := t) (by omega) (by omega)
      rw [hcount, Int.toNat_one, BitVec.ofNat_add, BitVec.ofNat_toNat, BitVec.setWidth_eq] at hgur
      exact ⟨hgur, hdrain, hplan⟩
    case r00 =>
      have h4094 : t.gur.r00 = 4094 := BitVec.eq_of_toNat_eq h00
      have hroom : t.gur.get .g0 .c0 ≠ 4095 := by rw [RecordFile.get, h4094]; decide
      have hbit := execNext_fend_of_one_bit_of_room hcount htwo h00.ge (before := []) rfl (by simp) hroom
      rwa [RecordFile.get, h4094] at hbit
    case r01 =>
      exact execNext_fend_of_one_bit_of_room hcount htwo (hnotA h00) (before := [(.g0, .c0)])
        (g := .g0) (c := .c1) rfl (by simp [RecordFile.get, h00]) h01
    case r10 =>
      exact execNext_fend_of_one_bit_of_room hcount htwo (hnotA h00) (before := [(.g0, .c0), (.g0, .c1)])
        (g := .g1) (c := .c0) rfl (by simp [RecordFile.get, h00, h01]) h10
    case r11 =>
      exact execNext_fend_of_one_bit_of_room hcount htwo (hnotA h00)
        (before := [(.g0, .c0), (.g0, .c1), (.g1, .c0)])
        (g := .g1) (c := .c1) rfl (by simp [RecordFile.get, h00, h01, h10]) h11
    case drain =>
      exact execNext_fend_of_one_bit_of_full hcount htwo (hnotA h00)
        (by simp [slotsOf, RecordFile.get, h00, h01, h10, h11])
end

section
/-! SUPPORT. The words of the host access commands with operands (30_encoding.md R97, R98, R100), and what RDREG's word
decodes to for every selector. -/

namespace Sys2Proof

/-- A word whose upper part holds the opcode, over zero bits, and whose lower part is all that the payload holds. -/
theorem encode_fst_toNat_eq_append {i : Instr} {m n : Nat} {upper : BitVec m} {lower : BitVec n}
    (hupper : upper.toNat * 2 ^ n = i.opcode.bits.toNat * 2 ^ 28) (hlower : i.payload.toNat = lower.toNat) :
    (encode i).1.toNat = (upper ++ lower).toNat := by
  rw [encode_toNat, toNat_append', hupper, hlower]

theorem toNat_zero_append (m : Nat) {n : Nat} (v : BitVec n) : (0#m ++ v).toNat = v.toNat := by
  simp

theorem encode_wrcfg_fst (mean : BitVec 16) (stereo : Bool) :
    (encode (.wrcfg mean stereo)).1 = 0b010100000000000#15 ++ (BitVec.ofBool stereo ++ mean) :=
  BitVec.eq_of_toNat_eq (encode_fst_toNat_eq_append (by simp [Instr.opcode, Opcode.bits]) (toNat_zero_append 11 _))

theorem encode_wrrec_fst (gr : Granule) (ch : Channel) (val : Record) :
    (encode (.wrrec gr ch val)).1 =
      0b011000000000000000#18 ++ (BitVec.ofBool gr.bit ++ (BitVec.ofBool ch.bit ++ val)) :=
  BitVec.eq_of_toNat_eq (encode_fst_toNat_eq_append (by simp [Instr.opcode, Opcode.bits]) (toNat_zero_append 14 _))

theorem encode_rdrec_fst (gr : Granule) (ch : Channel) :
    (encode (.rdrec gr ch)).1 =
      0b011100000000000000#18 ++ (BitVec.ofBool gr.bit ++ (BitVec.ofBool ch.bit ++ 0#12)) :=
  BitVec.eq_of_toNat_eq (encode_fst_toNat_eq_append (by simp [Instr.opcode, Opcode.bits]) (toNat_zero_append 14 _))

theorem encode_rdreg_fst (sel : BitVec 4) : (encode (.rdreg sel)).1 = 0x8000000#28 ++ sel :=
  BitVec.eq_of_toNat_eq (encode_fst_toNat_eq_append (by simp [Instr.opcode, Opcode.bits]) (toNat_zero_append 24 sel))

/-- The decoder looks at the selector last, and rejects a reserved one by its own name (R100, R104). -/
theorem decode_encode_rdreg_fst (sel : BitVec 4) (opnd : Opnd) :
    decode (encode (.rdreg sel)).1 opnd =
      if sel.toNat ≤ 8 then .ok (.rdreg sel) else .error (.reservedSelector sel) := by
  obtain ⟨hop, hzero, hsel⟩ := (encode_eq_iff _ (.rdreg sel)).mp rfl
  have hrdreg : Opcode.ofBits? (field (encode (.rdreg sel)).1 28 4) = some .rdreg := by rw [hop]; rfl
  simp only [decode, hrdreg, hzero, hsel, beq_self_eq_true, if_true]

end Sys2Proof
end

section
/-! SUPPORT. What the host access commands leave (44_host_access.md R194 to R198): the records a host may name, the
illegal command spelled out, and the register images as numbers (30_encoding.md R100). -/

namespace Sys2Proof.Machine

theorem exec_of_illegal {i : Instr} {s : State} (h : execNext i s = s.illegalCommand) :
    exec i s = .next { s with status := { s.status with illegal := true }, rsp := some 0 } := by
  rw [exec_eq_next, h, State.illegalCommand_eq]

/-! The record index of WRREC and of RDREC is in range by the one test (R102). -/

theorem recordInRange {ch : Channel} {stereo : Bool} (h : ch = .c0 ∨ stereo = true) :
    (decide (ch = .c0) || stereo) = true := by
  simpa using h

theorem not_recordInRange {ch : Channel} {stereo : Bool} (hch : ch = .c1) (hmono : stereo = false) :
    (decide (ch = .c0) || stereo) = false := by
  simp [hch, hmono]

/-! The images of RDREG. -/

theorem execNext_rdreg_of_reserved (s : State) {sel : BitVec 4} (h : 8 < sel.toNat) :
    execNext (.rdreg sel) s = s.illegalCommand := by
  rw [execNext_rdreg, s.image_eq_none sel h]

/-- R42: the flags in bits 0 to 4, LAST_PLAN in bits 9 and 8. -/
theorem Status.toNat_image (st : Status) :
    st.image.toNat = st.seqErr.toNat + 2 * st.illegal.toNat + 4 * st.peInvalid.toNat + 8 * st.sat.toNat +
      16 * st.cfgErr.toNat + 256 * st.lastPlan.bits.toNat := by
  unfold Status.image
  repeat rw [toNat_append']
  simp only [BitVec.toNat_ofBool, BitVec.toNat_ofNat]
  omega

/-- R36, R37: CFG is MEAN in bits 15 to 0 and STEREO in bit 16. -/
theorem State.toNat_of_image_cfg {s : State} {w : Word} (h : s.image 4 = some w) :
    w.toNat = s.mean.toNat + 65536 * s.stereo.toNat := by
  obtain rfl : 0#15 ++ (BitVec.ofBool s.stereo ++ s.mean) = w := Option.some.inj h
  rw [toNat_append', toNat_append', BitVec.toNat_ofBool, BitVec.toNat_ofNat]
  omega

/-- R44, R45: PHASE in bits 1 and 0, SLOT in bits 6 to 4. -/
theorem State.toNat_of_image_phase {s : State} {w : Word} (h : s.image 5 = some w) :
    w.toNat = s.phase.bits.toNat + 16 * s.slot.toNat := by
  obtain rfl : 0#25 ++ (s.slot ++ (0#2 ++ s.phase.bits)) = w := Option.some.inj h
  repeat rw [toNat_append']
  simp only [BitVec.toNat_ofNat]
  omega

/-- R46: the floor of SIZE / 8 modulo 512, and bit 9 where SIZE is not a multiple of 8 in 0 to 4088. -/
theorem State.toNat_of_image_mdb {s : State} {w : Word} (h : s.image 8 = some w) :
    (w.toNat : Int) = s.size.toInt / 8 % 512 +
      if 0 ≤ s.size.toInt ∧ s.size.toInt ≤ 4088 ∧ s.size.toInt % 8 = 0 then 0 else 512 := by
  obtain ⟨w', himage, hw⟩ := s.image_mdb
  obtain rfl := Option.some.inj (himage.symm.trans h)
  have hmdb := s.toNat_mdb
  have hrange := s.mdbOutOfRange_eq_false_iff
  rw [← Int.dvd_iff_tmod_eq_zero, Int.dvd_iff_emod_eq_zero] at hrange
  cases hout : s.mdbOutOfRange with
  | false =>
    rw [if_pos (hrange.mp hout), hw, hout, Bool.toNat_false]
    omega
  | true =>
    rw [if_neg (mt hrange.mpr (by simp [hout])), hw, hout, Bool.toNat_true]
    omega

end Sys2Proof.Machine
end

section
open Sys2Proof Sys2Proof.Machine

/-- Settles O46: the selector decides whether there is an image, and each image is read off field by field. -/
theorem rdregImages : Obligations.RdregImages := by
  intro sel s
  refine ⟨fun opnd => ?word, fun hreserved => exec_of_illegal (execNext_rdreg_of_reserved s hreserved),
    fun hlegal => ?images⟩
  case word =>
    rw [← encode_rdreg_fst]
    exact decode_encode_rdreg_fst sel opnd
  case images =>
    obtain ⟨w, hw⟩ := Option.isSome_iff_exists.mp (s.image_isSome sel hlegal)
    have hexec : exec (.rdreg sel) s = .next (s.respond w) :=
      (exec_eq_next _ s).trans (congrArg _ (execNext_rdreg_of_image hw))
    refine ⟨w, hexec, ?size, ?max, ?drain, ?status, ?cfg, ?phase, ?result, ?stuff, ?mdb⟩ <;> rintro rfl
    case size => exact congrArg BitVec.toInt (Option.some.inj hw).symm
    case max =>
      obtain rfl : s.max.setWidth 32 = w := Option.some.inj hw
      exact BitVec.toNat_setWidth_of_le (by decide)
    case drain => exact (Option.some.inj hw).symm
    case status =>
      obtain rfl : s.status.image = w := Option.some.inj hw
      rw [Status.toNat_image]
      cases s.status.lastPlan <;> rfl
    case cfg => exact State.toNat_of_image_cfg hw
    case phase =>
      rw [State.toNat_of_image_phase hw]
      cases s.phase <;> rfl
    case result => exact congrArg BitVec.toInt (Option.some.inj hw).symm
    case stuff => exact congrArg BitVec.toInt (Option.some.inj hw).symm
    case mdb => exact State.toNat_of_image_mdb hw

/-- Settles O42: the word 0 is NOP's encoding, and NOP only responds. -/
theorem nopEffect : Obligations.NopEffect := fun s opnd =>
  ⟨decode_of_encode_fst_eq (i := .nop) rfl nofun rfl opnd, exec_eq_next .nop s, rfl⟩

/-- Settles O43: the word is the encoding, and the equation of WRCFG names the four fields it writes. -/
theorem wrcfgEffect : Obligations.WrcfgEffect := fun mean stereo s =>
  ⟨decode_of_encode_fst_eq rfl nofun (encode_wrcfg_fst mean stereo), exec_eq_next (.wrcfg mean stereo) s⟩

/-- Settles O44, by the range of the record index; in range the new file is the old one with one record set. -/
theorem wrrecEffect : Obligations.WrrecEffect := by
  intro gr ch val s
  refine ⟨decode_of_encode_fst_eq rfl nofun (encode_wrrec_fst gr ch val), fun hlegal => ?inRange,
    fun hch hmono => exec_of_illegal (execNext_of_not_inRange (not_recordInRange hch hmono))⟩
  have hexec : exec (.wrrec gr ch val) s = .next ((s.setGur (s.gur.set gr ch val)).respond 0) :=
    (exec_eq_next _ s).trans (congrArg _ (execNext_wrrec_of_inRange (recordInRange hlegal)))
  exact ⟨s.gur.set gr ch val, hexec, s.gur.get_set_self gr ch val,
    fun g c hother => s.gur.get_set_other val hother.symm⟩

/-- Settles O45, by the range of the record index; 32 bits hold a record unchanged. -/
theorem rdrecEffect : Obligations.RdrecEffect := by
  intro gr ch s
  refine ⟨decode_of_encode_fst_eq rfl nofun (encode_rdrec_fst gr ch), fun hlegal => ?inRange,
    fun hch hmono => exec_of_illegal (execNext_of_not_inRange (not_recordInRange hch hmono))⟩
  have hexec : exec (.rdrec gr ch) s = .next (s.respond ((s.gur.get gr ch).setWidth 32)) :=
    (exec_eq_next _ s).trans (congrArg _ (execNext_rdrec_of_inRange (recordInRange hlegal)))
  exact ⟨(s.gur.get gr ch).setWidth 32, hexec, BitVec.toNat_setWidth_of_le (by decide)⟩

/-- Settles O49: the word is the encoding, and CLRSIDE writes the file of zeros. -/
theorem clrsideEffect : Obligations.ClrsideEffect := fun s =>
  ⟨decode_of_encode_fst_eq rfl nofun rfl, RecordFile.zero, exec_eq_next .clrside s,
    fun g c => congrArg BitVec.toNat (RecordFile.get_zero g c)⟩
end

section
/-! SUPPORT. The five diagnostic events (60_exceptions.md R221 to R226): a command sets each flag exactly on the causes
that the rules name, whatever the flag was before; so no command, no illegal word and no edge but reset clears one. -/

namespace Sys2Proof.Machine

/-! The causes (R221, R223), and the model's test for each. -/

/-- The causes of each event, for a command in a state (R221, R223). -/
def Causes (i : Instr) (s : State) : StatusFlag → Prop
  | .seqErr => ¬ inOrder i s
  | .illegal => i.wellFormed = false ∨ i.inRange s.stereo = false
  | .peInvalid => ∃ pe, i = .maxbits pe ∧ ((f64 pe).isNaN = true ∨ (f64 pe).isInf = true ∨ (f64 pe).isNeg = true)
  | .sat =>
    (∃ used, i = .adjust used ∧
      (s.size.toInt + s.share - uint used < -2147483648 ∨ 2147483647 < s.size.toInt + s.share - uint used)) ∨
    (i = .fend ∧ s.stereo = true ∧ s.mean.toNat % 2 = 1 ∧ s.size.toInt = 2147483647)
  | .cfgErr => ∃ mean stereo, i = .wrcfg mean stereo ∧ s.phase ≠ .awaitFrame

theorem causes_fbegin_iff (len : BitVec 16) (s : State) (f : StatusFlag) :
    Causes (.fbegin len) s f ↔ .seqErr = f ∧ s.seqErrFbegin = true := by
  cases f <;> simp [Causes, inOrder, State.seqErrFbegin, Instr.wellFormed, Instr.inRange]

theorem causes_maxbits_iff (pe : Opnd) (s : State) (f : StatusFlag) :
    Causes (.maxbits pe) s f ↔
      .seqErr = f ∧ s.seqErrMaxbits = true ∨ .peInvalid = f ∧ peInvalid (f64 pe) = true := by
  cases f <;>
    simp [Causes, inOrder, State.seqErrMaxbits, peInvalid, or_assoc, imp_iff_not_or, Instr.wellFormed, Instr.inRange]

theorem causes_adjust_iff (used : BitVec 12) (s : State) (f : StatusFlag) :
    Causes (.adjust used) s f ↔
      .seqErr = f ∧ s.seqErrAdjust = true ∨ .sat = f ∧ outside32 (s.size.toInt + s.share - uint used) = true := by
  cases f <;> simp [Causes, inOrder, State.seqErrAdjust, outside32, Instr.wellFormed, Instr.inRange]

theorem causes_fend_iff (s : State) (f : StatusFlag) :
    Causes .fend s f ↔
      .seqErr = f ∧ s.seqErrFend = true ∨
      .sat = f ∧ (s.stereo && decide (s.mean.toNat % 2 = 1) && decide (s.size.toInt = 2147483647)) = true := by
  cases f <;> simp [Causes, inOrder, State.seqErrFend, and_assoc, imp_iff_not_or, Instr.wellFormed, Instr.inRange]

theorem causes_wrcfg_iff (mean : BitVec 16) (stereo : Bool) (s : State) (f : StatusFlag) :
    Causes (.wrcfg mean stereo) s f ↔ .cfgErr = f ∧ s.cfgErrWrcfg = true := by
  cases f <;> simp [Causes, inOrder, State.cfgErrWrcfg, Instr.wellFormed, Instr.inRange]

/-! What the commands do to the flags. -/

theorem Status.get_raise_iff (st : Status) (f g : StatusFlag) (b : Bool) :
    (st.raise f b).get g = true ↔ st.get g = true ∨ f = g ∧ b = true := by
  rw [Status.get_raise]
  split_ifs with h <;> simp [h]

theorem execNext_fend_get (s : State) (f : StatusFlag) :
    (execNext .fend s).status.get f = s.reconciled.status.get f := by
  simp [execNext_fend_eq_place, State.place_frame]

/-- R104, for a selector and for a record index alike. -/
theorem execNext_of_causes_illegal {i : Instr} {s : State} (h : Causes i s .illegal) :
    execNext i s = s.illegalCommand := by
  obtain hwf | hrange := h
  · cases i with
    | rdreg sel => exact execNext_rdreg_of_reserved s (not_le.mp (of_decide_eq_false hwf))
    | _ => cases hwf
  · exact execNext_of_not_inRange hrange

section
variable {i : Instr} (hop : i.opcode ∈ [.nop, .wrrec, .rdrec, .rdreg, .clrside]) (s : State)
include hop

/-- The commands that are no source operation and do not write CFG have no event but ILLEGAL. -/
theorem causes_iff_of_access (f : StatusFlag) : Causes i s f ↔ .illegal = f ∧ Causes i s .illegal := by
  cases i with
  | nop | wrrec | rdrec | rdreg | clrside => cases f <;> simp [Causes, inOrder]
  | _ => simp [Instr.opcode] at hop

theorem execNext_status_of_access (hlegal : ¬ Causes i s .illegal) : (execNext i s).status = s.status := by
  obtain ⟨hwf, hrange⟩ : i.wellFormed = true ∧ i.inRange s.stereo = true := by simpa [Causes] using hlegal
  cases i with
  | nop | clrside => rfl
  | wrrec gr ch val => rw [execNext_wrrec_of_inRange hrange]; rfl
  | rdrec gr ch => rw [execNext_rdrec_of_inRange hrange]; rfl
  | rdreg sel =>
    obtain ⟨w, hw⟩ := Option.isSome_iff_exists.mp (s.image_isSome sel (of_decide_eq_true hwf))
    rw [execNext_rdreg_of_image hw]; rfl
  | _ => simp [Instr.opcode] at hop

theorem execNext_get_iff_of_access (f : StatusFlag) :
    (execNext i s).status.get f = true ↔ s.status.get f = true ∨ Causes i s f := by
  rw [causes_iff_of_access hop]
  by_cases hillegal : Causes i s .illegal
  · rw [execNext_of_causes_illegal hillegal, State.illegalCommand_status, Status.get_raise_iff]
    simp [hillegal]
  · rw [execNext_status_of_access hop s hillegal]
    simp [hillegal]

end

/-- A command sets a flag exactly on the flag's causes, and clears none (R221, R225). -/
theorem execNext_get_iff (i : Instr) (s : State) (f : StatusFlag) :
    (execNext i s).status.get f = true ↔ s.status.get f = true ∨ Causes i s f := by
  cases i with
  | fbegin len =>
    rw [causes_fbegin_iff]
    exact Status.get_raise_iff ..
  | maxbits pe =>
    rw [causes_maxbits_iff, ← or_assoc, ← Status.get_raise_iff]
    exact Status.get_raise_iff ..
  | adjust used =>
    rw [causes_adjust_iff, ← or_assoc, ← Status.get_raise_iff]
    exact Status.get_raise_iff ..
  | fend =>
    rw [causes_fend_iff, ← or_assoc, ← Status.get_raise_iff, execNext_fend_get, State.reconciled_status]
    exact Status.get_raise_iff ..
  | wrcfg mean stereo =>
    rw [causes_wrcfg_iff]
    exact Status.get_raise_iff ..
  | nop | wrrec | rdrec | rdreg | clrside => exact execNext_get_iff_of_access (by simp [Instr.opcode]) s f

/-! The flags are sticky (R225). -/

section
variable {s : State} {f : StatusFlag} (h : s.status.get f = true)
include h

theorem execNext_keeps_flag (i : Instr) : (execNext i s).status.get f = true :=
  (execNext_get_iff i s f).mpr (.inl h)

theorem illegalCommand_keeps_flag : s.illegalCommand.status.get f = true := Status.get_raise_of_get h

theorem acceptNext_keeps_flag (c : Command) : (acceptNext c s).status.get f = true :=
  acceptNext_keeps (P := fun u => u.status.get f = true) (fun i _ hu => execNext_keeps_flag hu i)
    (fun _ hu => illegalCommand_keeps_flag hu) c h

theorem stepOf_keeps_flag (hrst : ∀ p rest, s.inputs = p :: rest → p.rst = false) :
    (stepOf s).status.get f = true := by
  obtain ⟨-, hstay⟩ | ⟨p, rest, hin, hedge⟩ := stepOf_cases s
  · rwa [hstay]
  · rw [hedge]
    exact edgeNext_keeps (P := fun u => u.status.get f = true) (fun i _ hu => execNext_keeps_flag hu i)
      (fun _ hu => illegalCommand_keeps_flag hu) (fun _ hu => hu) (by simp [hrst p rest hin]) h

end

theorem State.clean_iff (s : State) : s.clean = true ↔ ∀ f, s.status.get f = false := by
  simp only [State.clean, Bool.not_eq_true', Bool.or_eq_false_iff, and_assoc]
  constructor
  · rintro ⟨hseq, hillegal, hpe, hsat, hcfg⟩ f
    cases f <;> assumption
  · intro h
    exact ⟨h .seqErr, h .illegal, h .peInvalid, h .sat, h .cfgErr⟩

end Sys2Proof.Machine
end

section
/-! SUPPORT. Sessions (70_reset_and_hazards.md R253, R265): no command of one stops (60_exceptions.md R220), and what
each command and the taking of its response keep, a session keeps. -/

namespace Sys2Proof.Machine

theorem State.runSession_cons (c : Command) (cs : List Command) (s : State) :
    s.runSession (c :: cs) = ((acceptNext c s).setRsp none).runSession cs := by
  simp only [State.runSession, issue_eq_next]

theorem State.exists_runSession (cs : List Command) (s : State) :
    ∃ t, s.runSession cs = .next t ∧ (s.rsp = none ∨ cs ≠ [] → t.rsp = none) := by
  induction cs generalizing s with
  | nil => exact ⟨s, rfl, by simp⟩
  | cons c cs ih =>
    obtain ⟨t, hrun, htaken⟩ := ih ((acceptNext c s).setRsp none)
    exact ⟨t, (s.runSession_cons c cs).trans hrun, fun _ => htaken (.inl rfl)⟩

theorem State.runSession_keeps {P : State → Prop} (hissue : ∀ c s, P s → P ((acceptNext c s).setRsp none))
    {cs : List Command} {s t : State} (hrun : s.runSession cs = .next t) (h : P s) : P t := by
  induction cs generalizing s with
  | nil =>
    cases hrun
    exact h
  | cons c cs ih => exact ih (State.runSession_cons c cs s ▸ hrun) (hissue c s h)

end Sys2Proof.Machine
end

section
open Sys2Proof Sys2Proof.Machine

/-- Settles O14: the clauses on a legal command are the law of the flags at the five flags, and a legal command is no
cause of ILLEGAL. -/
theorem eventsHaveExactlyTheirCauses : Obligations.EventsHaveExactlyTheirCauses := by
  refine ⟨fun i s hwf hrange => ?legal, fun c s h => ⟨s.illegalCommand, accept_of_not_legal h, ?illegal⟩⟩
  case legal =>
    have hflag := execNext_get_iff i s
    have hillegal : ¬ Causes i s .illegal := by simp [Causes, hwf, hrange]
    exact ⟨execNext i s, exec_eq_next i s, hflag .seqErr,
      Bool.eq_iff_iff.mpr ((hflag .illegal).trans (or_iff_left hillegal)), hflag .peInvalid, hflag .sat, hflag .cfgErr⟩
  case illegal => rw [State.illegalCommand_eq]

/-- Settles O16: a flag that is set is kept by every command and by every edge that is no reset. -/
theorem onlyResetClearsFlags : Obligations.OnlyResetClearsFlags := by
  intro s t f hrst hstep hset
  rw [eq_stepOf_of_step hstep]
  exact stepOf_keeps_flag hset hrst

/-- Settles O17: a flag set in `t` would still be set in `u`. -/
theorem cleanEndMeansCleanThroughout : Obligations.CleanEndMeansCleanThroughout := by
  intro _ after _ t u _ hafter hclean
  rw [State.clean_iff] at hclean ⊢
  intro f
  by_contra hset
  have hkept : u.status.get f = true :=
    State.runSession_keeps (P := fun v => v.status.get f = true) (fun c _ hv => acceptNext_keeps_flag hv c) hafter
      (eq_true_of_ne_false hset)
  simp [hclean f] at hkept

/-- Settles O11: accepting a command always answers the state `acceptNext`, and a session is run command by command. -/
theorem sessionNeverStops : Obligations.SessionNeverStops := by
  refine ⟨fun c s => ?command, fun cs s => ?session⟩
  case command =>
    obtain ⟨w, hw⟩ := Option.isSome_iff_exists.mp (acceptNext_rsp_isSome c s)
    exact ⟨acceptNext c s, w, accept_eq_next c s, hw⟩
  case session =>
    obtain ⟨t, hrun, htaken⟩ := s.exists_runSession cs
    exact ⟨t, hrun, fun hne => htaken (.inr hne)⟩
end
